-- ==== Sys2Proof/Word.lean ====
section
/-! DEFINITION. The words of HQD-BSX: the few fixed widths of 00_scope.md R6. Rows, columns and sizes are
used as natural numbers once they are read out of a register (00_scope.md section 4.1: exact arithmetic). -/

namespace Sys2Proof

/-- One host register transfer: 16 bits (00_scope.md R6, 10_state.md R13). -/
abbrev Word : Type := BitVec 16

/-- A row, a column or a side as a register holds it: 8 bits, unsigned (00_scope.md R6, 20_memory.md R42). -/
abbrev Coord : Type := BitVec 8

/-- A command word: 8 bits (30_encoding.md R60). -/
abbrev CommandWord : Type := BitVec 8

/-- A mask-pattern id: 3 bits, so exactly eight values (10_state.md R18, 41_mask_rom.md R112). -/
abbrev MaskId : Type := BitVec 3

/-- A register number: 4 bits (10_state.md R13). -/
abbrev RegNum : Type := BitVec 4

/-- The fifteen bits of a format field (00_scope.md R6). -/
abbrev FormatWord : Type := BitVec 15

/-- A stream symbol as the stream port carries it: 2 bits (00_scope.md R6, 30_encoding.md R70). -/
abbrev SymbolCode : Type := BitVec 2

/-- The 32-bit record of a host operation (30_encoding.md R66). -/
abbrev HostRecord : Type := BitVec 32

end Sys2Proof
end

