-- ==== Sys2Proof/Syntax.lean ====
section
/-! DEFINITION. The syntax of HQD-BSX: the five commands (30_encoding.md R61), the host operations
(20_memory.md R40) and the lines a host's list is made of (30_encoding.md R66). -/

namespace Sys2Proof

/-- The five commands, one per row of spec/opcode_table.json. A command word carries no operand
(30_encoding.md R62, R63). -/
inductive Instr where
  /-- No operation (44_control_commands.md R160). -/
  | nop
  /-- Read the format information (40_format_demux.md R86). -/
  | fmt
  /-- Extract the bit sequence (43_data_scanner.md R143). -/
  | scan
  /-- Read the format information, then scan (44_control_commands.md R162). -/
  | run
  /-- Report the module, the classifier and the mask ROM at one cell (44_control_commands.md R164). -/
  | probe
  deriving DecidableEq, Repr

/-- The four operations a host can do to the block (20_memory.md R40). -/
inductive HostOp where
  /-- `WR n, v`: register write. -/
  | wr (n : RegNum) (v : Word)
  /-- `RD n`: register read. -/
  | rd (n : RegNum)
  /-- `GW r, c, b`: grid write; `true` is SET. -/
  | gw (r c : Coord) (b : Bool)
  /-- `POP`: stream accept. -/
  | pop
  deriving DecidableEq, Repr

/-- A line of the host's list: one host operation, a reset (70_reset_and_hazards.md R230), or one of the two
pseudo-operations that repeat an operation until the block answers (30_encoding.md R66). The pseudo-operations
LOADGRID and DECODE expand to lists of these lines (Machine/HostPort.lean). -/
inductive HostLine where
  | op (o : HostOp)
  | reset
  /-- `WAIT`: repeat `RD STATUS` until BUSY reads 0. -/
  | wait
  /-- `DRAIN`: repeat `POP` until the symbol returned is the sentinel. -/
  | drain
  deriving DecidableEq, Repr

/-- The register names of 10_state.md R14; numbers 11 to 15 are `reserved` (R29). -/
inductive RegName where
  | cmd
  | status
  | size
  | mask
  | fmtraw
  | fmtinfo
  | count
  | version
  | prow
  | pcol
  | pres
  | reserved
  deriving DecidableEq, Repr

end Sys2Proof
end

