-- ==== Sys2Proof/WellFormed.lean ====
section
/-! DEFINITION. Which terms of the syntax are well formed. A command has no operand (30_encoding.md R62, R63),
so every command is. The array given to LOADGRID must be an `n` by `n` array whose side fits an 8-bit
coordinate (30_encoding.md R66, 45_environment_collaborators.md R175, 00_scope.md R6). -/

namespace Sys2Proof

/-- Every command is well formed: its word has no field to check (30_encoding.md R62, R63). -/
def Instr.wellFormed : Instr → Bool
  | .nop => true
  | .fmt => true
  | .scan => true
  | .run => true
  | .probe => true

/-- Every row of the array, of modules or of characters, is as long as the array has rows: "Grid must be square"
(45_environment_collaborators.md R175). -/
def gridSquare {α : Type} (a : List (List α)) : Bool :=
  a.all fun row => row.length == a.length

/-- The side of the array fits SIZE, an 8-bit register (10_state.md R17). -/
def gridSideFits (a : List (List Bool)) : Bool :=
  decide (a.length < 256)

/-- An array LOADGRID may be given (30_encoding.md R66). -/
def gridWellFormed (a : List (List Bool)) : Bool :=
  gridSquare a && gridSideFits a

end Sys2Proof
end

