-- ==== Sys2Proof/Decode.lean ====
section
/-! DEFINITION. The command word (30_encoding.md R60, R61, R64) and the 32-bit record of a host operation
(R66): decoders, and after them the encoders. -/

namespace Sys2Proof

/-- Why a command word is illegal (30_encoding.md R64). The block reports both as IllegalCommand. -/
inductive DecodeError where
  /-- One of bits 7 to 3 is set. -/
  | zeroFieldSet
  /-- OP is 101, 110 or 111. -/
  | reservedOp
  deriving DecidableEq, Repr

/-- Bits 7:3 of a command word, which must be zero (30_encoding.md R60). -/
def zeroField (w : CommandWord) : BitVec 5 := w.extractLsb' 3 5

/-- Bits 2:0 of a command word, the operation (30_encoding.md R60, R63). -/
def opField (w : CommandWord) : BitVec 3 := w.extractLsb' 0 3

/-- The command a word stands for (30_encoding.md R61), or why it is illegal (R64). -/
def decode (w : CommandWord) : Except DecodeError Instr :=
  if zeroField w = 0#5 then
    match (opField w).toNat with
    | 0 => .ok .nop
    | 1 => .ok .fmt
    | 2 => .ok .scan
    | 3 => .ok .run
    | 4 => .ok .probe
    | _ => .error .reservedOp
  else .error .zeroFieldSet

/-- The command word of a command: five zero bits and OP (30_encoding.md R60, R61). -/
def encode : Instr → CommandWord
  | .nop => 0#5 ++ 0b000#3
  | .fmt => 0#5 ++ 0b001#3
  | .scan => 0#5 ++ 0b010#3
  | .run => 0#5 ++ 0b011#3
  | .probe => 0#5 ++ 0b100#3

/-- What the decoder reads from an instruction of spec/opcode_table.json: every row is one word of 8 bits
(30_encoding.md R60). Any other length, and a number that does not fit 8 bits, is no command word (log 10). -/
def decodeTableWord (nbits w : Nat) : Option Instr :=
  if nbits = 8 ∧ w < 256 then
    match decode (BitVec.ofNat 8 w) with
    | .ok i => some i
    | .error _ => none
  else none

/-- The register a number stands for (10_state.md R14). -/
def regName (n : RegNum) : RegName :=
  match n.toNat with
  | 0 => .cmd
  | 1 => .status
  | 2 => .size
  | 3 => .mask
  | 4 => .fmtraw
  | 5 => .fmtinfo
  | 6 => .count
  | 7 => .version
  | 8 => .prow
  | 9 => .pcol
  | 10 => .pres
  | _ => .reserved

/-- The host operation a 32-bit record stands for (30_encoding.md R66: bits 31:30 are the kind). A record whose
"rest" is not 0 is none of the four forms (log 11). -/
def decodeRecord (w : HostRecord) : Option HostOp :=
  match (w.extractLsb' 30 2).toNat with
  | 0 =>
    if w.extractLsb' 20 10 = 0#10 ∧ w.extractLsb' 0 16 = 0#16 then
      some (.rd (w.extractLsb' 16 4))
    else none
  | 1 =>
    if w.extractLsb' 20 10 = 0#10 then
      some (.wr (w.extractLsb' 16 4) (w.extractLsb' 0 16))
    else none
  | 2 =>
    if w.extractLsb' 24 6 = 0#6 ∧ w.extractLsb' 1 7 = 0#7 then
      some (.gw (w.extractLsb' 16 8) (w.extractLsb' 8 8) (w.getLsbD 0))
    else none
  | _ =>
    if w.extractLsb' 0 30 = 0#30 then some .pop else none

/-- The 32-bit record of a host operation (30_encoding.md R66). -/
def encodeRecord : HostOp → HostRecord
  | .rd n => 0b00#2 ++ 0#10 ++ n ++ 0#16
  | .wr n v => 0b01#2 ++ 0#10 ++ n ++ v
  | .gw r c b => 0b10#2 ++ 0#6 ++ r ++ c ++ 0#7 ++ BitVec.ofBool b
  | .pop => 0b11#2 ++ 0#30

end Sys2Proof
end

