-- ==== Sys2Proof/Config.lean ====
section
/-! DEFINITION. What an implementation fixes and the spec leaves open: the side of the grid store
(00_scope.md R6, 92_eei_decisions.md D4, OPEN) and the value of a cell nobody has written (10_state.md R36).
Both are opaque: no proof can see a value of either. -/

namespace Sys2Proof.Config

/-- How many steps of four the side of the grid store lies above 21: any of the 59 sides the spec admits
(21 <= NMAX <= 253, (NMAX - 21) mod 4 = 0). Open, log 1. -/
opaque nmaxSteps : Fin 59

/-- `NMAX`, the side of the grid store and the largest legal SIZE (00_scope.md R6; 92_eei_decisions.md D4: OPEN).
Log 1. -/
def NMAX : Nat := 21 + 4 * nmaxSteps.val

/-- The unspecified value a cell holds until the host writes it (10_state.md R36; 93_implementation_defined.md U1,
"any value per cell"): a free value for each cell. Log 2. -/
opaque unwrittenCell (r c : Nat) : Bool

end Sys2Proof.Config
end

