-- ==== Sys2Proof/Machine/State.lean ====
section
/-! DEFINITION. The state of HQD-BSX as plain data (10_state.md), what can stop a step, and the state after
reset (10_state.md R35). The last three fields are the model's own and hold what the host does (logs 4, 5, 6). -/

namespace Sys2Proof.Machine

/-- The sequencer state SEQ (10_state.md R27). -/
inductive SeqState where
  /-- No command in progress. -/
  | idle
  /-- A format read is in progress and the next module to collect is `raw[i]`. -/
  | fmt (i : Fin 15)
  /-- A scan is in progress and the next cell to visit is `visit(N)[k]`. -/
  | scan (k : Nat)
  /-- The spec's `END`: every cell is visited and the sentinel has not yet been emitted. -/
  | atEnd
  deriving DecidableEq, Repr

/-- CMDL, which command was accepted (10_state.md R28). Its value while SEQ = IDLE is unspecified and dead; the model
keeps the last one (DESIGN CHOICE, log 3). -/
inductive LatchedCommand where
  | fmt
  | scan
  | run
  deriving DecidableEq, Repr

/-- The value of a stream symbol (30_encoding.md R70): a data bit, or the sentinel 2. Symbol 3 is never produced. The
two bits that carry it are `symbolCode` (Machine/Ops.lean). -/
inductive Symbol where
  | data (b : Bool)
  | sentinel
  deriving DecidableEq, Repr

/-- The error kinds that have a code in STATUS.ERR (60_exceptions.md R201). -/
inductive ErrorKind where
  | invalidGridShape
  | outOfBounds
  | invalidMaskMode
  | insufficientData
  | alignmentMismatch
  | illegalCommand
  deriving DecidableEq, Repr

/-- Who takes a turn (60_exceptions.md R218). -/
inductive Agent where
  | sequencer
  | host
  deriving DecidableEq, Repr

/-- What a host operation returned (20_memory.md R40): a register's word, a symbol as the two bits that carry it
(30_encoding.md R70), or nothing. -/
inductive Response where
  | nothing
  | word (v : Word)
  | symbol (code : SymbolCode)
  deriving DecidableEq, Repr

/-- One written cell of the grid store: its key and its module, SET = true (10_state.md R10, R11). The block has
no byte and no linear address (20_memory.md R41, R42); the key is the model's (`cellKey`, log 8). -/
abbrev GridCell : Type := Nat × Bool

/-- The grid store: the cells the host has written, keys strictly rising (log 8). A cell that is not listed has
never been written (10_state.md R36, log 2). -/
abbrev Memory : Type := List GridCell

/-- The whole state of the block, and the host's side of its interface. -/
structure State where
  /-- `G`, the grid store (R10). -/
  grid : Memory
  /-- SIZE, register 2 (R17). -/
  size : Coord
  /-- STATUS.BUSY (R16). -/
  busy : Bool
  /-- STATUS.DONE (R16). -/
  done : Bool
  /-- STATUS.FMTV (R16). -/
  fmtv : Bool
  /-- STATUS.ERR (R16, 60_exceptions.md R201). -/
  err : BitVec 4
  /-- MASK, register 3 (R18). -/
  mask : MaskId
  /-- FMTRAW, register 4 (R19). -/
  fmtraw : FormatWord
  /-- FMTINFO, register 5 (R20). -/
  fmtinfo : FormatWord
  /-- COUNT, register 6 (R21). -/
  count : Word
  /-- PROW, register 8 (R23). -/
  prow : Coord
  /-- PCOL, register 9 (R23). -/
  pcol : Coord
  /-- PRES, register 10 (R24). -/
  pres : BitVec 4
  /-- SEQ (R27). -/
  seq : SeqState
  /-- CMDL (R28). While SEQ = IDLE it keeps its last value (DESIGN CHOICE, log 3). -/
  cmdl : LatchedCommand
  /-- RAWSH (R28): bit `i` is `raw[i]`. While SEQ = IDLE it keeps its last value (DESIGN CHOICE, log 3). -/
  rawsh : FormatWord
  /-- BS, the stream history, first symbol emitted first (R25). -/
  bs : List Symbol
  /-- The model's own: the lines the host has still to perform, the next one first (log 4). -/
  hostq : List HostLine
  /-- The model's own: who takes the next turns; empty means the default order (log 5). -/
  turns : List Agent
  /-- The model's own: what the last host operation returned (log 6). -/
  ret : Response
  deriving DecidableEq, Repr

/-- What stops the machine. An error of the block is no fault: it is a next state with a code in STATUS.ERR
(60_exceptions.md R200, R209). These two stand for sequencer states the spec does not give the machine, and no
state that meets `ControlInv` (Safety.lean) reaches one (log 9). -/
inductive Fault where
  /-- Raised by MemRead for a cell outside the module grid, where 20_memory.md R44 does not define it; 20_memory.md
  R45 says it never happens. Safe: the model stops where the spec says nothing. -/
  | gridReadOutOfRange (r c : Nat)
  /-- Raised by a sequencer or stream step whose SEQ and CMDL are no pair the rules give: SCAN(k) with `k` beyond the
  walk (10_state.md R27), or a format read completing with CMDL = SCAN (40_format_demux.md R88). Safe: the model
  stops where the spec says nothing. -/
  | sequencerOutOfDomain
  deriving DecidableEq, Repr

/-- Why an instruction has no meaning. -/
inductive Refusal where
  /-- Raised by an arm of exec whose instruction is not modelled yet. Safe. No arm of this model raises it. -/
  | notModelled (mnemonic : String)
  deriving DecidableEq, Repr

/-- The outcome of a step of this machine. -/
abbrev Result : Type := Host.Outcome State Fault Refusal

/-- The machine right after reset (10_state.md R35), no cell written yet (R36). CMDL and RAWSH are unspecified and
dead there; the model names FMT and 0 (DESIGN CHOICE, log 3). The host's list and turns are empty (logs 4, 5). -/
def State.reset : State where
  grid := []
  size := 0#8
  busy := false
  done := false
  fmtv := false
  err := 0#4
  mask := 0#3
  fmtraw := 0#15
  fmtinfo := 0#15
  count := 0#16
  prow := 0#8
  pcol := 0#8
  pres := 0#4
  seq := .idle
  cmdl := .fmt
  rawsh := 0#15
  bs := []
  hostq := []
  turns := []
  ret := .nothing

end Sys2Proof.Machine
end

