-- ==== Sys2Proof/Machine/Flags.lean ====
section
/-! DEFINITION. The flags of STATUS (10_state.md R16, R31), the error codes (60_exceptions.md R201), and every
update of the flags the rules name. -/

namespace Sys2Proof.Machine

/-- The code of an error kind in STATUS.ERR (60_exceptions.md R201). -/
def errorCode : ErrorKind → BitVec 4
  | .invalidGridShape => 1#4
  | .outOfBounds => 2#4
  | .invalidMaskMode => 3#4
  | .insufficientData => 4#4
  | .alignmentMismatch => 5#4
  | .illegalCommand => 6#4

/-- The kind a code stands for: none for 0 and for the reserved codes 7 to 15 (60_exceptions.md R201). -/
def errorOfCode (c : BitVec 4) : Option ErrorKind :=
  match c.toNat with
  | 1 => some .invalidGridShape
  | 2 => some .outOfBounds
  | 3 => some .invalidMaskMode
  | 4 => some .insufficientData
  | 5 => some .alignmentMismatch
  | 6 => some .illegalCommand
  | _ => none

/-- Hard errors abort; AlignmentMismatch is advisory (00_scope.md R8, 60_exceptions.md R201). -/
def errorHard : ErrorKind → Bool
  | .invalidGridShape => true
  | .outOfBounds => true
  | .invalidMaskMode => true
  | .insufficientData => true
  | .alignmentMismatch => false
  | .illegalCommand => true

/-- The word a read of STATUS returns: bits 15:8 and bit 3 read 0 (10_state.md R16). -/
def statusWord (s : State) : Word :=
  0#8 ++ s.err ++ 0#1 ++ BitVec.ofBool s.fmtv ++ BitVec.ofBool s.done ++ BitVec.ofBool s.busy

/-- `STATUS.DONE <- 0 ; STATUS.ERR <- 0`: what the acceptance of every command but NOP begins with
(44_control_commands.md R161). -/
def clearReport (s : State) : State :=
  { s with done := false, err := 0#4 }

/-- `STATUS.ERR <- code ; STATUS.DONE <- 0` (60_exceptions.md R206). -/
def reportError (e : ErrorKind) (s : State) : State :=
  { s with err := errorCode e, done := false }

/-- `STATUS.BUSY <- 1` with CMDL (40_format_demux.md R86, 43_data_scanner.md R143, 44_control_commands.md R162). -/
def latchCommand (c : LatchedCommand) (s : State) : State :=
  { s with busy := true, cmdl := c }

/-- `STATUS.DONE <- 1`, the end of a PROBE (44_control_commands.md R164). -/
def setDone (s : State) : State :=
  { s with done := true }

/-- `STATUS.BUSY <- 0 ; STATUS.DONE <- 1 ; SEQ <- IDLE` (40_format_demux.md R88, 43_data_scanner.md R147). From here on
CMDL and RAWSH are unspecified and dead (10_state.md R28, 93_implementation_defined.md U13); the model keeps their last
values (DESIGN CHOICE, log 3). -/
def endCommand (s : State) : State :=
  { s with busy := false, done := true, seq := .idle }

end Sys2Proof.Machine
end

