-- ==== Sys2Proof/Machine/Operands.lean ====
section
/-! DEFINITION. The operands of the commands. A command word carries none: every operand is implicit and is read
from a register (30_encoding.md R62). -/

namespace Sys2Proof.Machine

/-- Whether `n` is at most NMAX. Every store has NMAX >= 21 (00_scope.md R6), so up to 21 the answer does not
depend on the open parameter; beyond, it does (log 1). -/
def withinNmax (n : Nat) : Bool :=
  decide (n ≤ 21) || decide (n ≤ Config.NMAX)

/-- `legalSize(n)` (60_exceptions.md R203, 10_state.md R17). -/
def legalSize (n : Nat) : Bool :=
  decide (21 ≤ n) && decide ((n - 21) % 4 = 0) && withinNmax n

/-- Whether `(r, c)` names a cell of the grid store (10_state.md R10, 20_memory.md R46). -/
def inStore (r c : Nat) : Bool :=
  withinNmax (r + 1) && withinNmax (c + 1)

/-- `N`, the side of the module grid of the current command (00_scope.md R7). SIZE cannot change while a command
runs (10_state.md R30), so `N` is the value SIZE has. -/
def side (s : State) : Nat := s.size.toNat

/-- The row operand of PROBE (10_state.md R23). -/
def probeRow (s : State) : Nat := s.prow.toNat

/-- The column operand of PROBE (10_state.md R23). -/
def probeCol (s : State) : Nat := s.pcol.toNat

/-- VERSION, computed from SIZE (10_state.md R22). -/
def versionOf (size : Coord) : BitVec 8 :=
  if legalSize size.toNat then BitVec.ofNat 8 ((size.toNat - 21) / 4 + 1) else 0#8

end Sys2Proof.Machine
end

