-- ==== Sys2Proof/Machine/Ops.lean ====
section
/-! DEFINITION. The shared operations: the grid store, the register file as a host reads it, ending a command with
an error, the checks at acceptance, and the named updates of the state. -/

namespace Sys2Proof.Machine

/-! ## The grid store (10_state.md R10, 20_memory.md R44, R46) -/

/-- The key of a cell: rows and columns are below 256, so two cells never share one (log 8). -/
def cellKey (r c : Nat) : Nat := 256 * r + c

/-- The module listed under a key. -/
def gridFind : Memory → Nat → Option Bool
  | [], _ => none
  | (a, b) :: rest, k => if a = k then some b else gridFind rest k

/-- The store with one key listed, in rising order. -/
def gridInsert : Memory → Nat → Bool → Memory
  | [], k, b => [(k, b)]
  | (a, x) :: rest, k, b =>
    if k < a then (k, b) :: (a, x) :: rest
    else if k = a then (k, b) :: rest
    else (a, x) :: gridInsert rest k b

/-- `G[r][c]`: the module the host wrote last, or the free value of a cell never written (10_state.md R36,
93_implementation_defined.md U1; log 2). -/
def gridRead (g : Memory) (r c : Nat) : Bool :=
  (gridFind g (cellKey r c)).getD (Config.unwrittenCell r c)

/-- `G[r][c] <- b` (20_memory.md R46). -/
def gridWrite (g : Memory) (r c : Nat) (b : Bool) : Memory :=
  gridInsert g (cellKey r c) b

/-- The host has written the cell since power was applied (10_state.md R36). -/
def gridWritten (g : Memory) (r c : Nat) : Bool :=
  (gridFind g (cellKey r c)).isSome

/-- Keys strictly rise. -/
def keysRise : Memory → Bool
  | [] => true
  | (_, _) :: [] => true
  | (a, _) :: (b, y) :: rest => decide (a < b) && keysRise ((b, y) :: rest)

/-- Every key names a cell of the store (20_memory.md R46, R47). -/
def keysInStore (g : Memory) : Bool :=
  g.all fun cell => inStore (cell.1 / 256) (cell.1 % 256)

/-- The canonical form of the grid store (log 8): equal stores are equal lists. -/
def Memory.wf (g : Memory) : Bool := keysRise g && keysInStore g

/-- `MemRead((r, c), 1)`, defined only inside the module grid (20_memory.md R44). -/
def memRead (s : State) (r c : Nat) : Except Fault Bool :=
  if r < side s ∧ c < side s then .ok (gridRead s.grid r c) else .error (.gridReadOutOfRange r c)

/-! ## Bits and sequences of bits -/

/-- A sequence as a number, its first element the least significant bit. -/
def packLow (w : Nat) (bits : List Bool) : BitVec w :=
  BitVec.ofNat w (bits.foldr (fun b n => 2 * n + b.toNat) 0)

/-- A sequence as a number, its first element the most significant bit. -/
def packHigh (w : Nat) (bits : List Bool) : BitVec w := packLow w bits.reverse

/-- The bits of a register, bit 0 first. -/
def bitsLow {w : Nat} (x : BitVec w) : List Bool := (List.range w).map x.getLsbD

/-- The register with bit `i` set to `b`. -/
def putBit {w : Nat} (x : BitVec w) (i : Nat) (b : Bool) : BitVec w :=
  let here : BitVec w := 1#w <<< i
  if b then x ||| here else x &&& ~~~here

/-! ## The two bits of a stream symbol (30_encoding.md R70) -/

/-- Data bit 0 is carried as 00, data bit 1 as 01, the sentinel as 10 (30_encoding.md R70). -/
def symbolCode : Symbol → SymbolCode
  | .data b => 0#1 ++ BitVec.ofBool b
  | .sentinel => 0b10#2

/-- The symbol two bits stand for; 11 is never produced and stands for none (30_encoding.md R70). -/
def symbolOfCode (c : SymbolCode) : Option Symbol :=
  match c.toFin with
  | 0 => some (.data false)
  | 1 => some (.data true)
  | 2 => some .sentinel
  | 3 => none

/-- BS as the sequence of two-bit symbols that crossed the stream port (10_state.md R25, R33). -/
def streamCodes (s : State) : List SymbolCode := s.bs.map symbolCode

/-! ## Named updates -/

/-- The host has performed its line; these lines are left. -/
def withHostq (q : List HostLine) (s : State) : State := { s with hostq := q }

/-- The last host operation returned `r`. -/
def withRet (r : Response) (s : State) : State := { s with ret := r }

/-- One turn is used up. -/
def dropTurn (s : State) : State := { s with turns := s.turns.tail }

/-- `SEQ <- q`. -/
def withSeq (q : SeqState) (s : State) : State := { s with seq := q }

/-- `SIZE <- v`. -/
def withSize (v : Coord) (s : State) : State := { s with size := v }

/-- `MASK <- v`. -/
def withMask (v : MaskId) (s : State) : State := { s with mask := v }

/-- `PROW <- v`. -/
def withProw (v : Coord) (s : State) : State := { s with prow := v }

/-- `PCOL <- v`. -/
def withPcol (v : Coord) (s : State) : State := { s with pcol := v }

/-- `PRES <- v`. -/
def withPres (v : BitVec 4) (s : State) : State := { s with pres := v }

/-- The grid store after a write. -/
def withGrid (g : Memory) (s : State) : State := { s with grid := g }

/-- `RAWSH[i] <- b` (40_format_demux.md R87). -/
def withRawBit (i : Nat) (b : Bool) (s : State) : State := { s with rawsh := putBit s.rawsh i b }

/-- The four registers a completed format read publishes, together (40_format_demux.md R88, 20_memory.md R48). -/
def publishFormat (raw info : FormatWord) (m : MaskId) (s : State) : State :=
  { s with fmtraw := raw, fmtinfo := info, mask := m, fmtv := true }

/-- `STATUS.FMTV <- 0 ; SEQ <- FMT(0)`: a format read begins (40_format_demux.md R86). -/
def beginFormat (s : State) : State :=
  { s with fmtv := false, seq := .fmt 0 }

/-- `BS <- empty ; COUNT <- 0 ; SEQ <- SCAN(0)`: a scan begins (43_data_scanner.md R143). -/
def beginScan (s : State) : State :=
  { s with bs := [], count := 0#16, seq := .scan 0 }

/-- `BS <- BS ++ [x]`, and the host's `POP` returns `x`, carried as two bits (43_data_scanner.md R146,
30_encoding.md R70). -/
def emitSymbol (x : Symbol) (s : State) : State :=
  { s with bs := s.bs ++ [x], ret := .symbol (symbolCode x) }

/-- `COUNT <- COUNT + 1` (43_data_scanner.md R145). -/
def countBit (s : State) : State := { s with count := s.count + 1#16 }

/-- Reset: every piece of state but the grid store takes its reset value (70_reset_and_hazards.md R230, R232). The
host's own lines and turns are no state of the block and stay (logs 4, 5). -/
def resetBlock (s : State) : State :=
  { State.reset with grid := s.grid, hostq := s.hostq, turns := s.turns }

/-! ## Ending a command with an error, and the checks at acceptance -/

/-- `raise <Error>` in the step that accepts a command (60_exceptions.md R206): the code is recorded, DONE is 0,
nothing else changes, and the machine goes on (R209). It is the block's only form of exception; there is no return
from it (R208). -/
def raiseError (e : ErrorKind) (s : State) : Result := .next (reportError e s)

/-- The acceptance of FMT, SCAN, RUN and PROBE: DONE and ERR are cleared, then SIZE is checked
(44_control_commands.md R161, 60_exceptions.md R203, R205); with a legal SIZE the command's own rule goes on. -/
def acceptSized (body : State → Result) (s : State) : Result :=
  if legalSize (side s) then body (clearReport s) else raiseError .invalidGridShape (clearReport s)

/-! ## The register file as the host reads it (10_state.md R13, R14) -/

/-- `x[n]` as a host reads it: a narrow register occupies the low bits and the bits above it read 0; CMD and the
reserved numbers read 0 (10_state.md R13, R14, R29). -/
def readReg (s : State) (n : RegNum) : Word :=
  match regName n with
  | .cmd => 0#16
  | .status => statusWord s
  | .size => s.size.setWidth 16
  | .mask => s.mask.setWidth 16
  | .fmtraw => s.fmtraw.setWidth 16
  | .fmtinfo => s.fmtinfo.setWidth 16
  | .count => s.count
  | .version => (versionOf s.size).setWidth 16
  | .prow => s.prow.setWidth 16
  | .pcol => s.pcol.setWidth 16
  | .pres => s.pres.setWidth 16
  | .reserved => 0#16

/-- A host write to a register other than CMD, BUSY being 0: the bits above the register's width are ignored, and a
write to a read-only or reserved number is ignored (10_state.md R13, R14, R29). CMD holds no value (R15): its write
issues a command (Machine/HostPort.lean). -/
def writeReg (n : RegNum) (v : Word) (s : State) : State :=
  match regName n with
  | .cmd => s
  | .status => s
  | .size => withSize (v.setWidth 8) s
  | .mask => withMask (v.setWidth 3) s
  | .fmtraw => s
  | .fmtinfo => s
  | .count => s
  | .version => s
  | .prow => withProw (v.setWidth 8) s
  | .pcol => withPcol (v.setWidth 8) s
  | .pres => s
  | .reserved => s

/-- `GW r, c, b`, BUSY being 0: a write outside the store is dropped (20_memory.md R46, R47). -/
def writeCell (r c : Nat) (b : Bool) (s : State) : State :=
  if inStore r c then withGrid (gridWrite s.grid r c b) s else s

end Sys2Proof.Machine
end

