-- ==== Sys2Proof/Machine/Classifier.lean ====
section
/-! DEFINITION. The function-pattern classifier (42_function_pattern_classifier.md): five tests in the additive
form, which is the definition over natural numbers (R121, R126). -/

namespace Sys2Proof.Machine

/-- P1, "top-right finder + format strip region" (42_function_pattern_classifier.md R121). -/
def inTopRight (w r c : Nat) : Bool := decide (w ≤ c + 8) && decide (r ≤ 8)

/-- P2, "bottom-right alignment-pattern box" (42_function_pattern_classifier.md R121, R122). -/
def inAlignmentBox (h w r c : Nat) : Bool :=
  decide (w ≤ c + 9) && decide (c + 5 ≤ w) && decide (h ≤ r + 9) && decide (r + 5 ≤ h)

/-- P3, "timing patterns" (42_function_pattern_classifier.md R121). -/
def onTiming (r c : Nat) : Bool := r == 6 || c == 6

/-- P4, "top-left finder/format region" (42_function_pattern_classifier.md R121). -/
def inTopLeft (r c : Nat) : Bool := decide (c ≤ 8) && decide (r ≤ 8)

/-- P5, "bottom-left finder region", seven rows (42_function_pattern_classifier.md R121, R123). -/
def inBottomLeft (h r c : Nat) : Bool := decide (c ≤ 8) && decide (h ≤ r + 7)

/-- `isFunctionPattern(H, W, r, c)` (42_function_pattern_classifier.md R121). -/
def isFunctionPattern (h w r c : Nat) : Bool :=
  inTopRight w r c || inAlignmentBox h w r c || onTiming r c || inTopLeft r c || inBottomLeft h r c

end Sys2Proof.Machine
end

