-- ==== Sys2Proof/Machine/MaskRom.lean ====
section
/-! DEFINITION. The mask-function ROM: the eight predicates and the key (41_mask_rom.md). All arithmetic is on
natural numbers and exact (R111). -/

namespace Sys2Proof.Machine

/-- Mask 0 (41_mask_rom.md R102). -/
def mask0 (r c : Nat) : Bool := (r + c) % 2 == 0

/-- Mask 1 (41_mask_rom.md R103). -/
def mask1 (r _c : Nat) : Bool := r % 2 == 0

/-- Mask 2 (41_mask_rom.md R104). -/
def mask2 (_r c : Nat) : Bool := c % 3 == 0

/-- Mask 3 (41_mask_rom.md R105). -/
def mask3 (r c : Nat) : Bool := (r + c) % 3 == 0

/-- Mask 4, the remainder taken of `c / 3` only (41_mask_rom.md R106; 93_implementation_defined.md K2). -/
def mask4 (r c : Nat) : Bool := (r / 2) + ((c / 3) % 2) == 0

/-- Mask 5 (41_mask_rom.md R107). -/
def mask5 (r c : Nat) : Bool := ((r * c) % 2) + ((r * c) % 3) == 0

/-- Mask 6 (41_mask_rom.md R108). -/
def mask6 (r c : Nat) : Bool := (((r * c) % 2) + ((r * c) % 3)) % 2 == 0

/-- Mask 7 (41_mask_rom.md R109). -/
def mask7 (r c : Nat) : Bool := (((r * c) % 2) + ((r + c) % 2)) % 2 == 0

/-- `shouldInvert(m, r, c)` (41_mask_rom.md R100, R101); a mask id has exactly eight values (R112). -/
def shouldInvert (m : MaskId) (r c : Nat) : Bool :=
  match m.toFin with
  | 0 => mask0 r c
  | 1 => mask1 r c
  | 2 => mask2 r c
  | 3 => mask3 r c
  | 4 => mask4 r c
  | 5 => mask5 r c
  | 6 => mask6 r c
  | 7 => mask7 r c

/-- The key, `key[0]` first (41_mask_rom.md R110). -/
def keyBits : List Bool :=
  [true, false, true, false, true, false, false, false, false, false, true, false, false, true, false]

end Sys2Proof.Machine
end

