-- ==== Sys2Proof/Machine/Scanner.lean ====
section
/-! DEFINITION. The bit-sequence extractor: the walk, the scan as a function, the steps of a scan, and SCAN
(43_data_scanner.md). -/

namespace Sys2Proof.Machine

/-! ## The walk (43_data_scanner.md R135 to R142) -/

/-- The loop variable after the pair at `col` is processed (43_data_scanner.md R136). -/
def nextCol (col : Nat) : Nat := (if col = 8 then col - 1 else col) - 2

/-- The column loop from `col`, for at most `fuel` pairs (43_data_scanner.md R136). -/
def colLoop : Nat → Nat → List Nat
  | 0, _ => []
  | fuel + 1, col => if 2 ≤ col then col :: colLoop fuel (nextCol col) else []

/-- `colseq(N)`: the columns the loop processes (43_data_scanner.md R136). It falls by at least 2 a pair, so `N`
rounds are enough. -/
def colseq (n : Nat) : List Nat := colLoop n (n - 1)

/-- `rows(N, col)`: upward where `col % 4 = 0`, otherwise downward (43_data_scanner.md R138). -/
def rowsOf (n col : Nat) : List Nat :=
  if col % 4 = 0 then (List.range n).reverse else List.range n

/-- `visit(N)`: every cell the walk touches, function patterns included (43_data_scanner.md R140, R141). -/
def visit (n : Nat) : List (Nat × Nat) :=
  (colseq n).flatMap fun col => (rowsOf n col).flatMap fun row => [(row, col), (row, col - 1)]

/-- How many cells `visit(N)` has (43_data_scanner.md R140). -/
def visitLength (n : Nat) : Nat := n * (n - 3)

/-- `colseq(N)[p]` in closed form (43_data_scanner.md R136). -/
def colAt (n p : Nat) : Nat :=
  if p ≤ (n - 9) / 2 then n - 1 - 2 * p else if p = (n - 9) / 2 + 1 then 5 else 3

/-- `visit(N)[k]` "found without running the loop" (43_data_scanner.md R140). -/
def visitAt (n k : Nat) : Nat × Nat :=
  let q := k % (2 * n)
  let t := q / 2
  let col := colAt n (k / (2 * n))
  (if col % 4 = 0 then n - 1 - t else t, col - q % 2)

/-- Whether the scan skips the cell (43_data_scanner.md R144). -/
def isSkipped (n : Nat) (cell : Nat × Nat) : Bool := isFunctionPattern n n cell.1 cell.2

/-- `order(N)`: the walk without the function patterns (43_data_scanner.md R142). -/
def order (n : Nat) : List (Nat × Nat) := (visit n).filter fun cell => !isSkipped n cell

/-! ## The scan as a function (43_data_scanner.md R148) -/

/-- The bit of one cell: the module, inverted where the mask ROM says so (43_data_scanner.md R145, R148). -/
def scanBit (g : Memory) (m : MaskId) (cell : Nat × Nat) : Bool :=
  gridRead g cell.1 cell.2 ^^ shouldInvert m cell.1 cell.2

/-- `scanBits(G, N, m)` (43_data_scanner.md R148). -/
def scanBits (g : Memory) (n : Nat) (m : MaskId) : List Bool := (order n).map (scanBit g m)

/-- `scan(G, N, m)`: the bits, then the sentinel (43_data_scanner.md R148). -/
def scanSymbols (g : Memory) (n : Nat) (m : MaskId) : List Symbol :=
  (scanBits g n m).map Symbol.data ++ [Symbol.sentinel]

/-! ## The stream port and the steps of a scan (43_data_scanner.md R144 to R147) -/

/-- `SEQ` after visit step `k` (43_data_scanner.md R144, R145). -/
def afterVisit (n k : Nat) : SeqState :=
  if k + 1 < visitLength n then .scan (k + 1) else .atEnd

/-- The symbol the sequencer has to transfer, if any (43_data_scanner.md R146): the bit of a data cell (R145), the
sentinel at the end (R147), nothing in any other state. -/
def offered (s : State) : Except Fault (Option Symbol) :=
  match s.seq with
  | .idle => .ok none
  | .fmt _ => .ok none
  | .scan k =>
    if k < visitLength (side s) then
      let cell := visitAt (side s) k
      if isSkipped (side s) cell then .ok none
      else
        match memRead s cell.1 cell.2 with
        | .ok v => .ok (some (.data (v ^^ shouldInvert s.mask cell.1 cell.2)))
        | .error f => .error f
    else .error .sequencerOutOfDomain
  | .atEnd => .ok (some .sentinel)

/-- The joint step in which the host accepts the symbol offered (43_data_scanner.md R145, R146, R147): a data bit is
counted and the walk goes on; the sentinel ends the command. -/
def transfer (x : Symbol) (s : State) : State :=
  match s.seq with
  | .idle => s
  | .fmt _ => s
  | .scan k => withSeq (afterVisit (side s) k) (countBit (emitSymbol x s))
  | .atEnd => endCommand (emitSymbol x s)

/-- `POP` (20_memory.md R40, 43_data_scanner.md R146): it returns nothing and changes nothing when no symbol is
offered. -/
def popStep (s : State) : Result :=
  match offered s with
  | .ok (some x) => .next (transfer x s)
  | .ok none => .next (withRet .nothing s)
  | .error f => .fault f

/-- The sequencer's own step in `SCAN(k)`: a function pattern is skipped (43_data_scanner.md R144); at a data cell
the sequencer waits for a `POP` (R146, 70_reset_and_hazards.md R240). -/
def scanStep (k : Nat) (s : State) : Result :=
  if k < visitLength (side s) then
    if isSkipped (side s) (visitAt (side s) k) then .next (withSeq (afterVisit (side s) k) s)
    else .next s
  else .fault .sequencerOutOfDomain

/-- SCAN (43_data_scanner.md R143): the acceptance; the sequencer and the host's `POP`s do the rest. -/
def execScan (s : State) : Result :=
  acceptSized (fun t => .next (beginScan (latchCommand .scan t))) s

end Sys2Proof.Machine
end

