-- ==== Sys2Proof/Machine/Format.lean ====
section
/-! DEFINITION. The format-information demultiplexer: the fifteen positions, un-masking and splitting, the steps of a
format read, and FMT (40_format_demux.md). -/

namespace Sys2Proof.Machine

/-- The row of `fmtpos(N)[i]`: row `i` for `i <= 5`, row `i + 1` for 6 and 7, row `N - 15 + i` from 8 on
(40_format_demux.md R81). -/
def formatRow (n i : Nat) : Nat :=
  if i ≤ 5 then i else if i ≤ 7 then i + 1 else n + i - 15

/-- The column of every format position (40_format_demux.md R81). -/
def formatCol : Nat := 8

/-- `raw[0..14]` of a grid with side `n` (40_format_demux.md R82). -/
def rawBits (g : Memory) (n : Nat) : List Bool :=
  (List.range 15).map fun i => gridRead g (formatRow n i) formatCol

/-- `f[0..14]`: the reversed sequence against the key (40_format_demux.md R83, R84). -/
def unmask (raw : List Bool) : List Bool :=
  List.zipWith (fun a b => a ^^ b) raw.reverse keyBits

/-- `ec = (f[0] << 1) | f[1]` (40_format_demux.md R85). -/
def errorLevelBits (f : List Bool) : BitVec 2 := packHigh 2 (f.take 2)

/-- `mid = (f[2] << 2) | (f[3] << 1) | f[4]` (40_format_demux.md R85, 30_encoding.md R68). -/
def maskIdBits (f : List Bool) : MaskId := packHigh 3 ((f.drop 2).take 3)

/-- What `formatInfo(G, N)` returns (40_format_demux.md R80). -/
structure FormatInfo where
  raw : List Bool
  f : List Bool
  ec : BitVec 2
  mid : MaskId
  deriving DecidableEq, Repr

/-- `formatInfo(G, N)` (40_format_demux.md R80 to R85). -/
def formatInfo (g : Memory) (n : Nat) : FormatInfo :=
  let raw := rawBits g n
  let f := unmask raw
  { raw := raw, f := f, ec := errorLevelBits f, mid := maskIdBits f }

/-- FMTINFO.EC, bits 14:13 (10_state.md R20). -/
def infoEc (x : FormatWord) : BitVec 2 := x.extractLsb' 13 2

/-- FMTINFO.MID, bits 12:10 (10_state.md R20). -/
def infoMid (x : FormatWord) : MaskId := x.extractLsb' 10 3

/-- FMTINFO.PROT, bits 9:0, kept and checked by nobody (10_state.md R20, 40_format_demux.md R91). -/
def infoProt (x : FormatWord) : BitVec 10 := x.extractLsb' 0 10

/-- The completion's write of FMTRAW, FMTINFO, MASK and FMTV, from RAWSH (40_format_demux.md R88; bit order
10_state.md R19, R20). -/
def publishRead (s : State) : State :=
  let f := unmask (bitsLow s.rawsh)
  publishFormat s.rawsh (packHigh 15 f) (maskIdBits f) s

/-- Completion of a format read (40_format_demux.md R88): FMT ends; RUN begins the scan in the same step
(44_control_commands.md R162). SCAN reads no format (log 9). -/
def completeFormat (s : State) : Result :=
  match s.cmdl with
  | .fmt => .next (endCommand (publishRead s))
  | .run => .next (beginScan (publishRead s))
  | .scan => .fault .sequencerOutOfDomain

/-- Collection step `i`; the last one completes the read (40_format_demux.md R87). -/
def formatStep (i : Fin 15) (s : State) : Result :=
  match memRead s (formatRow (side s) i.val) formatCol with
  | .error f => .fault f
  | .ok v =>
    let t := withRawBit i.val v s
    if h : i.val + 1 < 15 then .next (withSeq (.fmt ⟨i.val + 1, h⟩) t) else completeFormat t

/-- FMT (40_format_demux.md R86): the acceptance; the sequencer does the rest. -/
def execFmt (s : State) : Result :=
  acceptSized (fun t => .next (beginFormat (latchCommand .fmt t))) s

end Sys2Proof.Machine
end

