-- ==== Sys2Proof/Machine/Control.lean ====
section
/-! DEFINITION. The commands NOP, RUN and PROBE, and what an illegal word does (44_control_commands.md,
60_exceptions.md R202). -/

namespace Sys2Proof.Machine

/-- NOP: nothing changes, DONE and ERR included (44_control_commands.md R160). -/
def execNop (s : State) : Result := .next s

/-- RUN (44_control_commands.md R162): the acceptance; the sequencer and the host's `POP`s do the rest. -/
def execRun (s : State) : Result :=
  acceptSized (fun t => .next (beginFormat (latchCommand .run t))) s

/-- PRES from the module, the classifier and the mask ROM: BIT, INV, FUNC, MOD (10_state.md R24). -/
def probeWord (md func inv : Bool) : BitVec 4 :=
  BitVec.ofBool (md ^^ inv) ++ BitVec.ofBool inv ++ BitVec.ofBool func ++ BitVec.ofBool md

/-- PROBE with a legal SIZE (44_control_commands.md R164): the coordinates are checked before PRES is written. -/
def probeCell (s : State) : Result :=
  let n := side s
  let r := probeRow s
  let c := probeCol s
  if n ≤ r ∨ n ≤ c then raiseError .outOfBounds s
  else
    match memRead s r c with
    | .error f => .fault f
    | .ok md =>
      .next (setDone (withPres (probeWord md (isFunctionPattern n n r c) (shouldInvert s.mask r c)) s))

/-- PROBE (44_control_commands.md R164): it completes in the step that accepts it. -/
def execProbe (s : State) : Result := acceptSized probeCell s

/-- A command word that is none of the five (30_encoding.md R64, 60_exceptions.md R202): accepted, and ended at once
by IllegalCommand. -/
def illegalWord (s : State) : Result := raiseError .illegalCommand (clearReport s)

end Sys2Proof.Machine
end

