-- ==== Sys2Proof/Machine/Dispatch.lean ====
section
/-! DEFINITION. exec: one arm per command. It is the acceptance of a command word by an idle block
(44_control_commands.md R161); Machine/HostPort.lean drops a word written while BUSY = 1 before it comes here. -/

namespace Sys2Proof.Machine

def exec (i : Instr) (s : State) : Host.Outcome State Fault Refusal :=
  match i with
  | .nop => Sys2Proof.Machine.execNop s
  | .fmt => Sys2Proof.Machine.execFmt s
  | .scan => Sys2Proof.Machine.execScan s
  | .run => Sys2Proof.Machine.execRun s
  | .probe => Sys2Proof.Machine.execProbe s

end Sys2Proof.Machine
end

