-- ==== Sys2Proof/Machine/HostPort.lean ====
section
/-! DEFINITION. The host's side of the interface: the four operations and reset (20_memory.md R40,
70_reset_and_hazards.md R230), the lines of the host's list and their expansions (30_encoding.md R66), the
sequencer's turn, and who moves next (60_exceptions.md R218). -/

namespace Sys2Proof.Machine

/-! ## The host operations -/

/-- A command word offered to an idle block (44_control_commands.md R161). -/
def issueCommand (w : CommandWord) (s : State) : Result :=
  match decode w with
  | .ok i => exec i s
  | .error _ => illegalWord s

/-- `WR n, v`: dropped while BUSY = 1 (70_reset_and_hazards.md R238); a write to CMD issues the command word
`v[7:0]` (10_state.md R15); any other write goes to the register file. -/
def hostWrite (n : RegNum) (v : Word) (s : State) : Result :=
  if s.busy then .next s
  else if regName n = .cmd then issueCommand (v.setWidth 8) s
  else .next (writeReg n v s)

/-- `GW r, c, b`: dropped while BUSY = 1 and outside the store (20_memory.md R46, R47). -/
def hostGridWrite (r c : Coord) (b : Bool) (s : State) : State :=
  if s.busy then s else writeCell r.toNat c.toNat b s

/-- One host operation (20_memory.md R40). `WR` and `GW` return nothing. -/
def performOp (o : HostOp) (s : State) : Result :=
  match o with
  | .wr n v => hostWrite n v (withRet .nothing s)
  | .rd n => .next (withRet (.word (readReg s n)) s)
  | .gw r c b => .next (hostGridWrite r c b (withRet .nothing s))
  | .pop => popStep s

/-- STATUS, register number 1 (10_state.md R14). -/
def statusNum : RegNum := 1#4

/-- The host's turn: it performs its next line. `WAIT` and `DRAIN` perform one operation a turn and stay until the
block answers (30_encoding.md R66; log 7). A host without a line does nothing. -/
def hostTurn (s : State) : Result :=
  match s.hostq with
  | [] => .next s
  | .op o :: rest => performOp o (withHostq rest s)
  | .reset :: rest => .next (resetBlock (withHostq rest s))
  | .wait :: rest =>
    if s.busy then .next (withRet (.word (readReg s statusNum)) s)
    else .next (withHostq rest (withRet (.word (readReg s statusNum)) s))
  | .drain :: rest =>
    match popStep s with
    | .next t => if t.ret = .symbol (symbolCode .sentinel) then .next (withHostq rest t) else .next t
    | .fault f => .fault f
    | .refused r => .refused r

/-! ## The sequencer's turn -/

/-- The sequencer's own step (60_exceptions.md R218). An idle block does nothing (R220); at a data cell and at the
end the sequencer waits for the host's `POP` (43_data_scanner.md R146, R147). -/
def sequencerTurn (s : State) : Result :=
  match s.seq with
  | .idle => .next s
  | .fmt i => formatStep i s
  | .scan k => scanStep k s
  | .atEnd => .next s

/-! ## Who moves next -/

/-- Whether the sequencer can move without the host: it is not idle and has no symbol to transfer. -/
def sequencerCanMove (s : State) : Bool :=
  match s.seq with
  | .idle => false
  | .fmt _ => true
  | .scan k => decide (visitLength (side s) ≤ k) || isSkipped (side s) (visitAt (side s) k)
  | .atEnd => false

/-- The agent that takes the next turn: the one `turns` names; when `turns` names none, the sequencer while it can
move alone, otherwise the host (60_exceptions.md R218, 70_reset_and_hazards.md R245; log 5). -/
def nextAgent (s : State) : Agent :=
  match s.turns with
  | a :: _ => a
  | [] => if sequencerCanMove s then .sequencer else .host

/-- The turn of the agent that is next. -/
def takeTurn (s : State) : Result :=
  match nextAgent s with
  | .sequencer => sequencerTurn (dropTurn s)
  | .host => hostTurn (dropTurn s)

/-! ## Host lines (30_encoding.md R66) -/

/-- CMD, register number 0 (10_state.md R14). -/
def cmdNum : RegNum := 0#4

/-- SIZE, register number 2 (10_state.md R14). -/
def sizeNum : RegNum := 2#4

/-- FMTINFO, register number 5 (10_state.md R14). -/
def fmtinfoNum : RegNum := 5#4

/-- COUNT, register number 6 (10_state.md R14). -/
def countNum : RegNum := 6#4

/-- VERSION, register number 7 (10_state.md R14). -/
def versionNum : RegNum := 7#4

/-- `WR CMD, w` (30_encoding.md R66). -/
def commandWordLine (w : CommandWord) : HostLine := .op (.wr cmdNum (w.setWidth 16))

/-- The line that issues a command (30_encoding.md R66). -/
def commandLine (i : Instr) : HostLine := commandWordLine (encode i)

/-- The grid writes of one row, from column `c` on. -/
def loadRow (r : Nat) : Nat → List Bool → List HostLine
  | _, [] => []
  | c, b :: rest => .op (.gw (BitVec.ofNat 8 r) (BitVec.ofNat 8 c) b) :: loadRow r (c + 1) rest

/-- The grid writes of the rows from row `r` on. -/
def loadRows : Nat → List (List Bool) → List HostLine
  | _, [] => []
  | r, row :: rest => loadRow r 0 row ++ loadRows (r + 1) rest

/-- `LOADGRID A` (30_encoding.md R66), for an array that is `gridWellFormed`. -/
def loadGrid (a : List (List Bool)) : List HostLine :=
  .op (.wr sizeNum (BitVec.ofNat 16 a.length)) :: loadRows 0 a

/-- `DECODE A` (30_encoding.md R66). -/
def decodeLines (a : List (List Bool)) : List HostLine :=
  loadGrid a ++
    [commandLine .run, .drain, .wait, .op (.rd statusNum), .op (.rd fmtinfoNum), .op (.rd versionNum),
      .op (.rd countNum)]

/-- The state in which the host's next line writes the word `w` to CMD, the host moves next and the block is idle,
so that it accepts the word (44_control_commands.md R161; log 4). -/
def fetchState (w : CommandWord) (s : State) : State :=
  { s with busy := false, seq := .idle, hostq := commandWordLine w :: s.hostq, turns := .host :: s.turns }

end Sys2Proof.Machine
end

