-- ==== Sys2Proof/Machine/Step.lean ====
section
/-! DEFINITION. One step of the machine: one turn of one agent (60_exceptions.md R218). -/

namespace Sys2Proof.Machine

/-- One step: one turn of the agent that is next. -/
def step (s : State) : Host.Outcome State Fault Refusal := takeTurn s

/-- The state whose very next step runs the instruction with bits `w`. Every command is one word of 8 bits
(30_encoding.md R60), so `nbits` is 8 and the word is the low 8 bits of `w`. Log 4 says how a program comes to run. -/
def State.withFetchWord (s : State) (_nbits w : Nat) : State := fetchState (BitVec.ofNat 8 w) s

/-- `k` steps of the machine, stopping at the first fault or refusal. -/
def runFor : Nat → State → Result
  | 0, s => .next s
  | k + 1, s =>
    match step s with
    | .next t => runFor k t
    | .fault f => .fault f
    | .refused r => .refused r

end Sys2Proof.Machine
end

