-- ==== Sys2Proof/Machine/Environment.lean ====
section
/-! DEFINITION. The software on the host's side of the block, as pure functions (45_environment_collaborators.md): the
grid source, the alignment check, rendering, the segment interpreter and `decode(grid)`, which drives the block. Nothing here is implemented by the
block; it binds the host side of the model (00_scope.md R4). -/

namespace Sys2Proof.Machine

/-! ## Grid source (45_environment_collaborators.md R175) -/

/-- A loaded character grid: characters other than '0' and '1' stay in it, for rendering
(45_environment_collaborators.md R175). -/
structure CharGrid where
  rows : List (List Char)
  width : Nat
  height : Nat
  version : Option Nat
  deriving DecidableEq, Repr

/-- "whitespace characters are stripped on load" (45_environment_collaborators.md R175). -/
def stripLine (line : List Char) : List Char := line.filter fun c => !c.isWhitespace

/-- The rows of a text: stripped, "blank lines are dropped" (45_environment_collaborators.md R175). -/
def charRows (lines : List (List Char)) : List (List Char) :=
  (lines.map stripLine).filter fun l => !l.isEmpty

/-- The version of a side in the valid range (00_scope.md R8: `(width-21)/4 + 1`, at least 1); none for another
side (log 14). -/
def versionOfWidth (w : Nat) : Option Nat :=
  if 21 ≤ w ∧ (w - 21) % 4 = 0 then some ((w - 21) / 4 + 1) else none

/-- The loaded character grid, its width, height and version "derived from the first row's length", or
InvalidGridShape for a text that is not square (45_environment_collaborators.md R175, 60_exceptions.md R201). -/
def loadText (lines : List (List Char)) : Except ErrorKind CharGrid :=
  let rows := charRows lines
  let w := (rows.headD []).length
  if gridSquare rows then .ok { rows := rows, width := w, height := w, version := versionOfWidth w }
  else .error .invalidGridShape

/-- An accepted character as a module; any other character cannot be loaded into a store of bits
(45_environment_collaborators.md R175; 93_implementation_defined.md U17). -/
def moduleOfChar (c : Char) : Option Bool :=
  if c = '1' then some true else if c = '0' then some false else none

/-- The modules of a loaded character grid, or none if it has another character: the host must then reject it before
LOADGRID (93_implementation_defined.md U17). -/
def modulesOfGrid (g : CharGrid) : Option (List (List Bool)) := g.rows.mapM fun row => row.mapM moduleOfChar

/-! ## Alignment Validator (45_environment_collaborators.md R176) -/

/-- One index of both timing strips (45_environment_collaborators.md R176). -/
def timingMatches (g : Memory) (i : Nat) : Bool :=
  gridRead g 6 i == (i % 2 == 0) && gridRead g i 6 == (i % 2 == 0)

/-- `validate(G, N)`: indices 8 to `N - 11` of row 6 and of column 6 (45_environment_collaborators.md R176). -/
def validateTiming (g : Memory) (n : Nat) : Bool :=
  (List.range n).all fun i => !(decide (8 ≤ i) && decide (i + 11 ≤ n)) || timingMatches g i

/-- A module of a timing strip that is not as expected (45_environment_collaborators.md R176). -/
structure TimingMismatch where
  row : Nat
  col : Nat
  expected : Bool
  actual : Bool
  deriving DecidableEq, Repr

/-- One module of a strip against what is expected at index `i`: SET at even `i`. -/
def timingMismatchAt (g : Memory) (i row col : Nat) : List TimingMismatch :=
  if gridRead g row col = (i % 2 == 0) then []
  else [{ row := row, col := col, expected := i % 2 == 0, actual := gridRead g row col }]

/-- Every mismatch of both strips. Which one is reported first is not said (45_environment_collaborators.md R176; log
14): a report is some member of this list. -/
def timingMismatches (g : Memory) (n : Nat) : List TimingMismatch :=
  ((List.range n).filter fun i => decide (8 ≤ i) && decide (i + 11 ≤ n)).flatMap fun i =>
    timingMismatchAt g i 6 i ++ timingMismatchAt g i i 6

/-- The advisory error a host should surface (45_environment_collaborators.md R177). `decodeGrid` does not call it
(DESIGN CHOICE, log 16). -/
def alignmentAdvisory (g : Memory) (n : Nat) : Option ErrorKind :=
  if validateTiming g n then none else some .alignmentMismatch

/-! ## Rendering (45_environment_collaborators.md R178) -/

/-- One character: CLEAR is blank, SET is the filled glyph, anything else passes through. -/
def renderChar (glyph c : Char) : Char :=
  match moduleOfChar c with
  | some true => glyph
  | some false => ' '
  | none => c

/-- One row per line (45_environment_collaborators.md R178); the glyph is the host's (log 14). -/
def renderGrid (glyph : Char) (g : CharGrid) : List (List Char) :=
  g.rows.map fun row => row.map (renderChar glyph)

/-! ## Error-correction level (30_encoding.md R67) -/

/-- The four levels. Their order here means nothing. -/
inductive ErrorLevel where
  | M
  | L
  | H
  | Q
  deriving DecidableEq, Repr

/-- `00→M, 01→L, 10→H, 11→Q` (30_encoding.md R67). -/
def levelOf (ec : BitVec 2) : ErrorLevel :=
  match ec.toFin with
  | 0 => .M
  | 1 => .L
  | 2 => .H
  | 3 => .Q

/-! ## Segment Interpreter (45_environment_collaborators.md R180 to R185) -/

/-- DataMode (30_encoding.md R72, 45_environment_collaborators.md R182). -/
inductive DataMode where
  | numbers
  | alphanumeric
  | byte
  | kanji
  | unknown
  deriving DecidableEq, Repr

/-- The mode a 4-bit pattern stands for (30_encoding.md R72). -/
def dataModeOf (v : Nat) : DataMode :=
  match v with
  | 1 => .numbers
  | 2 => .alphanumeric
  | 4 => .byte
  | 8 => .kanji
  | _ => .unknown

/-- The payload record of the interpreter (45_environment_collaborators.md R180 to R184). -/
structure DecodedPayload where
  mode : DataMode
  length : Nat
  payload : List (BitVec 8)
  deriving DecidableEq, Repr

/-- The data bits of a stream: the sentinel is "not a valid bit" (10_state.md R25,
45_environment_collaborators.md R185). -/
def dataBits : List Symbol → List Bool
  | [] => []
  | .data b :: rest => b :: dataBits rest
  | .sentinel :: rest => dataBits rest

/-- A big-endian field: the bit with the lower index is the more significant (45_environment_collaborators.md R181). -/
def bitsValue (bits : List Bool) : Nat := bits.foldl (fun n b => 2 * n + b.toNat) 0

/-- `w` bits from index `at` on. -/
def bitsAt (bits : List Bool) (start w : Nat) : Nat := bitsValue ((bits.drop start).take w)

/-- `interpret(bitstream)` (45_environment_collaborators.md R181 to R185). -/
def interpret (stream : List Symbol) : Except ErrorKind DecodedPayload :=
  let bits := dataBits stream
  let len := bitsAt bits 4 8
  if bits.length < 4 then .error .insufficientData
  else if bits.length < 12 then .error .insufficientData
  else if bits.length < 12 + 8 * len then .error .insufficientData
  else
    .ok { mode := dataModeOf (bitsAt bits 0 4), length := len,
          payload := (List.range len).map fun j => BitVec.ofNat 8 (bitsAt bits (12 + 8 * j) 8) }

/-! ## The decode record (44_control_commands.md R165, 45_environment_collaborators.md R179) -/

/-- What `decode(grid)` returns, assembled by the host. -/
structure DecodeRecord where
  version : Nat
  width : Nat
  height : Nat
  errorLevel : ErrorLevel
  maskId : MaskId
  dataMode : DataMode
  length : Nat
  payload : List (BitVec 8)
  deriving DecidableEq, Repr

/-- The record of a finished RUN, read from the registers and BS, or the error (44_control_commands.md R165,
45_environment_collaborators.md R179). -/
def decodeRecordOf (s : State) : Except ErrorKind DecodeRecord :=
  match errorOfCode s.err with
  | some e => .error e
  | none =>
    match interpret s.bs with
    | .error e => .error e
    | .ok p =>
      .ok { version := (versionOf s.size).toNat, width := s.size.toNat, height := s.size.toNat,
            errorLevel := levelOf (infoEc s.fmtinfo), maskId := s.mask, dataMode := p.mode,
            length := p.length, payload := p.payload }

/-! ## The decode entry point (45_environment_collaborators.md R179) -/

/-- How many steps `DECODE A` takes on an idle block for an array of legal side `n`: SIZE and the `n * n` grid writes,
RUN and its `15 + n * (n - 3) + 1` steps (70_reset_and_hazards.md R244), WAIT, and the four reads (30_encoding.md
R66). -/
def decodeSteps (n : Nat) : Nat := (1 + n * n) + (1 + 15 + visitLength n + 1) + 1 + 4

/-- `decode(grid)` (45_environment_collaborators.md R179, 44_control_commands.md R165): the host checks the shape,
drives a block that has just been reset with `DECODE A`, and assembles the record from the registers and BS. An array
that is not square, or wider than SIZE can say, is InvalidGridShape; a side the block refuses is what STATUS.ERR then
reports (log 14). That it neither runs the alignment check nor returns its advisory is the model's choice
(DESIGN CHOICE, log 16): a host surfaces the failure by `alignmentAdvisory` beside it. -/
def decodeGrid (a : List (List Bool)) : Host.Outcome (Except ErrorKind DecodeRecord) Fault Refusal :=
  if gridWellFormed a then
    match runFor (decodeSteps a.length) { State.reset with hostq := decodeLines a } with
    | .next t => .next (decodeRecordOf t)
    | .fault f => .fault f
    | .refused r => .refused r
  else .next (.error .invalidGridShape)

/-- The same from a text: the error of the grid source if it is not square; none if it has a character that cannot be
loaded (93_implementation_defined.md U17). -/
def decodeText (lines : List (List Char)) : Option (Host.Outcome (Except ErrorKind DecodeRecord) Fault Refusal) :=
  match loadText lines with
  | .error e => some (.next (.error e))
  | .ok g => (modulesOfGrid g).map decodeGrid

end Sys2Proof.Machine
end

