-- ==== Sys2Proof/Safety.lean ====
section
/-! DEFINITION. The invariants of the machine and what the statements say a run must keep. A state that meets
`ControlInv` is one the rules give the machine; the others are not reached from reset. -/

namespace Sys2Proof.Machine

/-- What the rules say of the control state between any two steps (10_state.md R16, R27, R30;
60_exceptions.md R201, R206, R210, R211; 44_control_commands.md R162). -/
structure ControlInv (s : State) : Prop where
  /-- The grid store is in canonical form and lists cells of the store only (log 8; 20_memory.md R47). -/
  grid_wf : Memory.wf s.grid = true
  /-- "`STATUS.BUSY = 1` exactly when `SEQ != IDLE`" (10_state.md R27). -/
  busy_iff : s.busy = true ↔ s.seq ≠ .idle
  /-- A command runs only with a legal SIZE (60_exceptions.md R203; 10_state.md R30). -/
  running_size : s.seq ≠ .idle → legalSize (side s) = true
  /-- DONE and ERR are 0 while a command runs (10_state.md R16). -/
  running_report : s.seq ≠ .idle → s.done = false ∧ s.err = 0#4
  /-- Only FMT and RUN read the format, and FMTV is 0 while they do (40_format_demux.md R86, R88). -/
  format_read : ∀ i, s.seq = .fmt i → s.cmdl ≠ .scan ∧ s.fmtv = false
  /-- SCAN(k) has `k < N*(N-3)` (10_state.md R27). -/
  scan_domain : ∀ k, s.seq = .scan k → k < visitLength (side s)
  /-- Only SCAN and RUN scan, and RUN scans with FMTV = 1 (44_control_commands.md R162,
  70_reset_and_hazards.md R241). -/
  scanning : ((∃ k, s.seq = .scan k) ∨ s.seq = .atEnd) → s.cmdl ≠ .fmt ∧ (s.cmdl = .run → s.fmtv = true)
  /-- The block reports the codes 0, 1, 2 and 6 only (60_exceptions.md R201, R210, R211). -/
  err_codes : s.err = 0#4 ∨ s.err = 1#4 ∨ s.err = 2#4 ∨ s.err = 6#4
  /-- DONE = 1 means the last command ended without error (10_state.md R16). -/
  done_no_error : s.done = true → s.err = 0#4

/-- What the rules say the result registers hold between any two steps (10_state.md R21, R24, R25;
40_format_demux.md R89; 43_data_scanner.md R147). -/
structure RegisterInv (s : State) : Prop where
  /-- COUNT is the number of data bits in BS (10_state.md R21). -/
  count_bits : s.count = BitVec.ofNat 16 (dataBits s.bs).length
  /-- `FMTINFO = FMTRAW ^ 0x5412` once a format read has completed (40_format_demux.md R89). -/
  format_words : s.fmtv = true → s.fmtinfo = s.fmtraw ^^^ 0x5412#15
  /-- PRES.BIT = MOD ^ INV (10_state.md R24). -/
  probe_bit : s.pres.getLsbD 3 = (s.pres.getLsbD 0 ^^ s.pres.getLsbD 2)
  /-- The sentinel stands nowhere but at the end of BS (43_data_scanner.md R147). -/
  sentinel_last : Symbol.sentinel ∉ s.bs.dropLast
  /-- A running scan has emitted no sentinel yet (43_data_scanner.md R147). -/
  sentinel_not_yet : ((∃ k, s.seq = .scan k) ∨ s.seq = .atEnd) → Symbol.sentinel ∉ s.bs

/-- During a format read RAWSH holds the modules collected so far (40_format_demux.md R82, R87). -/
def FormatInv (s : State) : Prop :=
  ∀ i, s.seq = .fmt i → ∀ j, j < i.val → s.rawsh.getLsbD j = gridRead s.grid (formatRow (side s) j) formatCol

/-- The bits of the first `k` cells of the walk (43_data_scanner.md R149: "a growing prefix of the same sequence"). -/
def prefixBits (g : Memory) (n : Nat) (m : MaskId) (k : Nat) : List Bool :=
  (((visit n).take k).filter fun cell => !isSkipped n cell).map (scanBit g m)

/-- During a scan BS is the prefix of `scan(G, N, MASK)` that the walk has reached (43_data_scanner.md R146, R149). -/
structure StreamInv (s : State) : Prop where
  at_scan : ∀ k, s.seq = .scan k → s.bs = (prefixBits s.grid (side s) s.mask k).map Symbol.data
  at_end : s.seq = .atEnd → s.bs = (scanBits s.grid (side s) s.mask).map Symbol.data

/-- The legal sides, as 60_exceptions.md R203 writes them: 21, 25, 29, ..., up to NMAX. -/
def LegalSide (n : Nat) : Prop := 21 ≤ n ∧ n ≤ Config.NMAX ∧ (n - 21) % 4 = 0

/-- The cells of an `n` by `n` grid, row by row. -/
def allCells (n : Nat) : List (Nat × Nat) :=
  (List.range n).flatMap fun r => (List.range n).map fun c => (r, c)

/-- The bits of a field, the most significant first (45_environment_collaborators.md R181). -/
def bitsHigh {w : Nat} (x : BitVec w) : List Bool := (bitsLow x).reverse

/-- Every number of steps ends in a next state. -/
def neverStops (s : State) : Prop := ∀ n, ∃ t, runFor n s = .next t

end Sys2Proof.Machine
end

