-- ==== Sys2Proof/Certificates/Slice0/Obligations.lean ====
section
/-! DEFINITION. The statements for the provers. Each docstring names the rule of spec/ it formalises. -/

open Sys2Proof Sys2Proof.Machine

/-! ## Encodings -/

/-- 30_encoding.md R61: the five words, written out bit by bit. -/
def Obligations.CommandWordsDecode : Prop :=
  decode 0b00000000#8 = .ok .nop ∧ decode 0b00000001#8 = .ok .fmt ∧ decode 0b00000010#8 = .ok .scan ∧
  decode 0b00000011#8 = .ok .run ∧ decode 0b00000100#8 = .ok .probe

/-- 30_encoding.md R60, R61: each command has exactly one word, and the decoder and the encoder agree on it. -/
def Obligations.CommandDecodeEncodeAgree : Prop :=
  ∀ (i : Instr) (w : CommandWord), decode w = .ok i ↔ w = encode i

/-- 30_encoding.md R64: the illegal words are those with a bit of 7:3 set or with OP 101, 110 or 111. -/
def Obligations.IllegalWordsRejected : Prop :=
  ∀ w : CommandWord,
    (∃ e, decode w = .error e) ↔ (w.extractLsb' 3 5 ≠ 0#5 ∨ 5 ≤ (w.extractLsb' 0 3).toNat)

/-- 30_encoding.md R66: the 32-bit record of a host operation, for every operand. That a record whose "rest" is not 0
is no host operation is the model's choice (log 11). -/
def Obligations.HostRecordsDecodeEncodeAgree : Prop :=
  ∀ (o : HostOp) (w : HostRecord), decodeRecord w = some o ↔ w = encodeRecord o

/-! ## Steps -/

/-- 10_state.md R15, 44_control_commands.md R161: a word written to CMD of an idle block runs the command that bits 7
to 0 decode to. What the step adds around exec is the model's (logs 4, 5, 6): the host's line and the turn are used
up, and a write returns nothing. -/
def Obligations.StepRunsDecodedCommand : Prop :=
  ∀ (s : State) (v : Word) (rest : List HostLine) (i : Instr),
    nextAgent s = .host → s.hostq = .op (.wr 0#4 v) :: rest → s.busy = false →
    decode (v.extractLsb' 0 8) = .ok i →
    step s = exec i { s with hostq := rest, turns := s.turns.tail, ret := .nothing }

/-- 30_encoding.md R64, 60_exceptions.md R202: an illegal word makes ERR 6 and DONE 0 and changes nothing else. The
host's lines, turns and response are the model's (logs 4, 5, 6). -/
def Obligations.StepReportsIllegalWord : Prop :=
  ∀ (s : State) (v : Word) (rest : List HostLine) (e : DecodeError),
    nextAgent s = .host → s.hostq = .op (.wr 0#4 v) :: rest → s.busy = false →
    decode (v.extractLsb' 0 8) = .error e →
    step s = .next
      { s with hostq := rest, turns := s.turns.tail, ret := .nothing, err := 6#4, done := false }

/-- 70_reset_and_hazards.md R238: while BUSY = 1 every register write and every grid write is dropped. The host's
lines, turns and response are the model's (logs 4, 5, 6). -/
def Obligations.BusyBlockDropsWrites : Prop :=
  ∀ (s : State) (o : HostOp) (rest : List HostLine),
    nextAgent s = .host → s.hostq = .op o :: rest → s.busy = true →
    ((∃ n v, o = .wr n v) ∨ ∃ r c b, o = .gw r c b) →
    step s = .next { s with hostq := rest, turns := s.turns.tail, ret := .nothing }

/-! ## The five commands at acceptance -/

/-- 44_control_commands.md R160: NOP changes nothing, DONE and ERR included, and a host write of its word, whatever
bits 15 to 8 are, changes nothing either, BUSY being 0 or 1. -/
def Obligations.NopChangesNothing : Prop :=
  (∀ s : State, exec .nop s = .next s) ∧
  ∀ (s : State) (v : Word), v.extractLsb' 0 8 = 0#8 → hostWrite 0#4 v s = .next s

/-- 40_format_demux.md R86: FMT with a legal SIZE; every register, flag, cell and symbol the rule does not name keeps
its value. -/
def Obligations.FmtAccepted : Prop :=
  ∀ s : State, LegalSide s.size.toNat →
    exec .fmt s = .next
      { s with done := false, err := 0#4, busy := true, fmtv := false, cmdl := .fmt, seq := .fmt 0 }

/-- 43_data_scanner.md R143: SCAN with a legal SIZE. -/
def Obligations.ScanAccepted : Prop :=
  ∀ s : State, LegalSide s.size.toNat →
    exec .scan s = .next
      { s with done := false, err := 0#4, busy := true, cmdl := .scan, bs := [], count := 0#16, seq := .scan 0 }

/-- 44_control_commands.md R162: RUN with a legal SIZE. -/
def Obligations.RunAccepted : Prop :=
  ∀ s : State, LegalSide s.size.toNat →
    exec .run s = .next
      { s with done := false, err := 0#4, busy := true, fmtv := false, cmdl := .run, seq := .fmt 0 }

/-- 44_control_commands.md R164, 10_state.md R24: PROBE with a legal SIZE and coordinates in the grid writes PRES and
DONE and changes nothing else. A cell never written reads as its free value (log 2). -/
def Obligations.ProbeReportsCell : Prop :=
  ∀ s : State, LegalSide s.size.toNat → s.prow.toNat < s.size.toNat → s.pcol.toNat < s.size.toNat →
    ∃ p : BitVec 4,
      exec .probe s = .next { s with done := true, err := 0#4, pres := p } ∧
      p.getLsbD 0 = gridRead s.grid s.prow.toNat s.pcol.toNat ∧
      p.getLsbD 1 = isFunctionPattern s.size.toNat s.size.toNat s.prow.toNat s.pcol.toNat ∧
      p.getLsbD 2 = shouldInvert s.mask s.prow.toNat s.pcol.toNat ∧
      p.getLsbD 3 = (p.getLsbD 0 ^^ p.getLsbD 2)

/-- 60_exceptions.md R203, R206: with an illegal SIZE every command but NOP reports InvalidGridShape and has no other
effect. -/
def Obligations.IllegalSizeReported : Prop :=
  ∀ (i : Instr) (s : State), i ≠ .nop → ¬ LegalSide s.size.toNat →
    exec i s = .next { s with err := 1#4, done := false }

/-- 60_exceptions.md R205: the word, then SIZE, then (PROBE only) the coordinates; the first that fails is reported
and the later ones are not made. -/
def Obligations.ChecksComeInOrder : Prop :=
  (∀ (w : CommandWord) (s : State) (e : DecodeError), decode w = .error e →
    issueCommand w s = .next { s with err := 6#4, done := false }) ∧
  (∀ (w : CommandWord) (s : State) (i : Instr), decode w = .ok i → i ≠ .nop → ¬ LegalSide s.size.toNat →
    issueCommand w s = .next { s with err := 1#4, done := false }) ∧
  (∀ (w : CommandWord) (s : State), decode w = .ok .probe → LegalSide s.size.toNat →
    (s.size.toNat ≤ s.prow.toNat ∨ s.size.toNat ≤ s.pcol.toNat) →
    issueCommand w s = .next { s with err := 2#4, done := false })

/-- 30_encoding.md R62, 60_exceptions.md R206: what the acceptance of each command leaves unchanged, on every path: no
command writes the grid, SIZE, PROW, PCOL, MASK, FMTRAW or FMTINFO at acceptance; only PROBE writes PRES; only SCAN
touches BS and COUNT; only FMT and RUN touch FMTV; only FMT, SCAN and RUN start the sequencer. The host's lines, turns
and response are the model's (logs 4, 5, 6). -/
def Obligations.AcceptanceFrame : Prop :=
  ∀ (i : Instr) (s t : State), exec i s = .next t →
    (∀ r c, gridRead t.grid r c = gridRead s.grid r c) ∧ t.grid = s.grid ∧ t.size = s.size ∧
    t.prow = s.prow ∧ t.pcol = s.pcol ∧ t.mask = s.mask ∧ t.fmtraw = s.fmtraw ∧ t.fmtinfo = s.fmtinfo ∧
    t.rawsh = s.rawsh ∧ t.hostq = s.hostq ∧ t.turns = s.turns ∧ t.ret = s.ret ∧
    (i ≠ .probe → t.pres = s.pres) ∧
    (i ≠ .scan → t.bs = s.bs ∧ t.count = s.count) ∧
    (i ≠ .fmt → i ≠ .run → t.fmtv = s.fmtv) ∧
    (i = .nop ∨ i = .probe → t.busy = s.busy ∧ t.seq = s.seq ∧ t.cmdl = s.cmdl) ∧
    (i = .nop → t.done = s.done ∧ t.err = s.err)

/-! ## The format read -/

/-- 40_format_demux.md R81: the fifteen positions, all in column 8. -/
def Obligations.FormatPositions : Prop :=
  ∀ n, LegalSide n →
    (List.range 15).map (fun i => (formatRow n i, formatCol)) =
      [(0, 8), (1, 8), (2, 8), (3, 8), (4, 8), (5, 8), (7, 8), (8, 8), (n - 7, 8), (n - 6, 8), (n - 5, 8),
        (n - 4, 8), (n - 3, 8), (n - 2, 8), (n - 1, 8)]

/-- 40_format_demux.md R84, R85: the un-masked field written out, and its two fields. -/
def Obligations.FormatFieldWrittenOut : Prop :=
  ∀ (g : Memory) (n : Nat), LegalSide n →
    (formatInfo g n).f =
      [!gridRead g (n - 1) 8, gridRead g (n - 2) 8, !gridRead g (n - 3) 8, gridRead g (n - 4) 8,
        !gridRead g (n - 5) 8, gridRead g (n - 6) 8, gridRead g (n - 7) 8, gridRead g 8 8, gridRead g 7 8,
        gridRead g 5 8, !gridRead g 4 8, gridRead g 3 8, gridRead g 2 8, !gridRead g 1 8, gridRead g 0 8] ∧
    (formatInfo g n).ec.toNat = 2 * (!gridRead g (n - 1) 8).toNat + (gridRead g (n - 2) 8).toNat ∧
    (formatInfo g n).mid.toNat =
      4 * (!gridRead g (n - 3) 8).toNat + 2 * (gridRead g (n - 4) 8).toNat + (!gridRead g (n - 5) 8).toNat

/-- 40_format_demux.md R89: for every value of FMTRAW, the un-masked field as a number is `FMTRAW ^ 0x5412`, and EC
and MASK are its bits 14:13 and 12:10. -/
def Obligations.FormatUnmaskIsXor : Prop :=
  ∀ x : FormatWord,
    packHigh 15 (unmask (bitsLow x)) = x ^^^ 0x5412#15 ∧
    errorLevelBits (unmask (bitsLow x)) = (x ^^^ 0x5412#15).extractLsb' 13 2 ∧
    maskIdBits (unmask (bitsLow x)) = (x ^^^ 0x5412#15).extractLsb' 10 3

/-- 40_format_demux.md R90: un-masking with the key and masking again with the same key gives back the original
fifteen bits, in the order in which they were collected; in registers, `FMTINFO ^ 0x5412 = FMTRAW`. -/
def Obligations.FormatXorSelfInverse : Prop :=
  (∀ raw : List Bool, raw.length = 15 →
    (List.zipWith (fun a b => a ^^ b) (unmask raw) keyBits).reverse = raw) ∧
  ∀ x : FormatWord, packHigh 15 (unmask (bitsLow x)) ^^^ 0x5412#15 = x

/-- 40_format_demux.md R87: a collection step that is not the last reads the module at `fmtpos(N)[i]` into RAWSH[i];
nothing else changes but SEQ. -/
def Obligations.CollectionStepReadsModule : Prop :=
  ∀ (s : State) (i : Fin 15), s.seq = .fmt i → i.val < 14 → LegalSide s.size.toNat →
    ∃ (x : FormatWord) (j : Fin 15), j.val = i.val + 1 ∧
      sequencerTurn s = .next { s with rawsh := x, seq := .fmt j } ∧
      ∀ b, b < 15 →
        x.getLsbD b = if b = i.val then gridRead s.grid (formatRow s.size.toNat i.val) 8 else s.rawsh.getLsbD b

/-- 40_format_demux.md R88: the last collection step publishes FMTRAW, FMTINFO, MASK and FMTV together; FMT ends and
RUN begins the scan in the same step. That RAWSH and CMDL keep their values once FMT has ended is the model's choice
(log 3). -/
def Obligations.FormatReadCompletes : Prop :=
  ∀ s : State, s.seq = .fmt 14 → LegalSide s.size.toNat →
    ∃ x y : FormatWord,
      (∀ b, b < 15 →
        x.getLsbD b = if b = 14 then gridRead s.grid (s.size.toNat - 1) 8 else s.rawsh.getLsbD b) ∧
      (∀ j, j < 15 → y.getLsbD (14 - j) = (x.getLsbD (14 - j) ^^ keyBits.getD j false)) ∧
      (s.cmdl = .fmt → sequencerTurn s = .next
        { s with rawsh := x, fmtraw := x, fmtinfo := y, mask := y.extractLsb' 10 3, fmtv := true,
                 busy := false, done := true, seq := .idle }) ∧
      (s.cmdl = .run → sequencerTurn s = .next
        { s with rawsh := x, fmtraw := x, fmtinfo := y, mask := y.extractLsb' 10 3, fmtv := true,
                 bs := [], count := 0#16, seq := .scan 0 })

/-- 40_format_demux.md R82, R87: RAWSH holds the modules collected so far, an invariant of every step. The host's
lines, turns and response are the model's (logs 4, 5, 6). -/
def Obligations.FormatInvKept : Prop :=
  ∀ s t : State, ControlInv s → FormatInv s → step s = .next t → FormatInv t

/-- 40_format_demux.md R86 to R88, R92 and 70_reset_and_hazards.md R244: from an idle block, FMT ends after its
acceptance and fifteen sequencer steps with `formatInfo(G, N)` in the registers, and changes nothing else. The host's
list, the order of turns and the response are the model's (logs 4, 5, 6), and so are the values CMDL and RAWSH have
once the command has ended (log 3). -/
def Obligations.FmtDeliversFormatInfo : Prop :=
  ∀ (s : State) (rest : List HostLine), s.seq = .idle → s.busy = false → LegalSide s.size.toNat → s.turns = [] →
    s.hostq = commandLine .fmt :: rest →
    runFor 16 s = .next
      { s with hostq := rest, ret := .nothing, done := true, err := 0#4, fmtv := true, cmdl := .fmt,
               rawsh := packLow 15 (formatInfo s.grid s.size.toNat).raw,
               fmtraw := packLow 15 (formatInfo s.grid s.size.toNat).raw,
               fmtinfo := packHigh 15 (formatInfo s.grid s.size.toNat).f,
               mask := (formatInfo s.grid s.size.toNat).mid }

/-! ## The mask ROM and the classifier -/

/-- 41_mask_rom.md R101: the table of the eight formulas, as written there. -/
def Obligations.MaskTable : Prop :=
  ∀ r c : Nat,
    (shouldInvert 0#3 r c = true ↔ (r + c) % 2 = 0) ∧
    (shouldInvert 1#3 r c = true ↔ r % 2 = 0) ∧
    (shouldInvert 2#3 r c = true ↔ c % 3 = 0) ∧
    (shouldInvert 3#3 r c = true ↔ (r + c) % 3 = 0) ∧
    (shouldInvert 4#3 r c = true ↔ (r / 2) + ((c / 3) % 2) = 0) ∧
    (shouldInvert 5#3 r c = true ↔ ((r * c) % 2) + ((r * c) % 3) = 0) ∧
    (shouldInvert 6#3 r c = true ↔ (((r * c) % 2) + ((r * c) % 3)) % 2 = 0) ∧
    (shouldInvert 7#3 r c = true ↔ (((r * c) % 2) + ((r + c) % 2)) % 2 = 0)

/-- 41_mask_rom.md R106 to R109: what the formulas of masks 4 to 7 come to. -/
def Obligations.MaskClosedForms : Prop :=
  ∀ r c : Nat,
    (shouldInvert 4#3 r c = true ↔ r ≤ 1 ∧ c % 6 < 3) ∧
    (shouldInvert 5#3 r c = true ↔ (r * c) % 6 = 0) ∧
    (shouldInvert 6#3 r c = true ↔ (r * c) % 6 < 3) ∧
    (shouldInvert 7#3 r c = true ↔ r % 2 = 0 ∧ c % 2 = 0)

/-- 42_function_pattern_classifier.md R121, R126: the five tests with the source's subtractions taken over the
integers, for all natural numbers. -/
def Obligations.ClassifierTests : Prop :=
  ∀ h w r c : Nat, isFunctionPattern h w r c = true ↔
    ((w : Int) - 8 ≤ c ∧ r ≤ 8) ∨
    ((w : Int) - 9 ≤ c ∧ (c : Int) ≤ w - 5 ∧ (h : Int) - 9 ≤ r ∧ (r : Int) ≤ h - 5) ∨
    (r = 6 ∨ c = 6) ∨ (c ≤ 8 ∧ r ≤ 8) ∨ (c ≤ 8 ∧ (h : Int) - 7 ≤ r)

/-- 42_function_pattern_classifier.md R124: how many cells of a legal grid are function patterns and how many are data
cells. -/
def Obligations.ClassifierCounts : Prop :=
  ∀ n, LegalSide n →
    ((allCells n).filter fun cell => isFunctionPattern n n cell.1 cell.2).length = 2 * n + 208 ∧
    ((allCells n).filter fun cell => !isFunctionPattern n n cell.1 cell.2).length = n * n - 2 * n - 208

/-! ## The walk -/

/-- 43_data_scanner.md R136: the column loop gives `N-1, N-3, ..., 10, 8, 5, 3`. -/
def Obligations.ColumnSequence : Prop :=
  ∀ n, LegalSide n →
    colseq n = (List.range ((n - 9) / 2 + 1)).map (fun p => n - 1 - 2 * p) ++ [5, 3] ∧
    (colseq n).length = (n - 9) / 2 + 3

/-- 43_data_scanner.md R138, R139: the pairs alternate, the first upward, down to column 8, which goes upward; columns
5 and 3 go downward. -/
def Obligations.PairDirections : Prop :=
  ∀ n, LegalSide n →
    (∀ p, p ≤ (n - 9) / 2 → ∃ col, (colseq n)[p]? = some col ∧
      rowsOf n col = if p % 2 = 0 then (List.range n).reverse else List.range n) ∧
    rowsOf n 8 = (List.range n).reverse ∧ rowsOf n 5 = List.range n ∧ rowsOf n 3 = List.range n

/-- 43_data_scanner.md R140: the length of the walk, its elements without the loop, and the cells it may touch. -/
def Obligations.VisitClosedForm : Prop :=
  ∀ n, LegalSide n →
    (visit n).length = n * (n - 3) ∧
    (∀ k, k < n * (n - 3) → (visit n)[k]? = some (visitAt n k)) ∧
    ∀ cell ∈ visit n, cell.1 < n ∧ 2 ≤ cell.2 ∧ cell.2 ≤ n - 1

/-- 43_data_scanner.md R137: the walk touches every cell of the grid but those of columns 0, 1 and 6. -/
def Obligations.VisitedColumns : Prop :=
  ∀ n, LegalSide n → ∀ r c, (r, c) ∈ visit n ↔ r < n ∧ c < n ∧ c ≠ 0 ∧ c ≠ 1 ∧ c ≠ 6

/-- 43_data_scanner.md R142: the walk lists each of its cells once, and `order(N)` each visited data cell once. -/
def Obligations.OrderListsEachCellOnce : Prop :=
  ∀ n, LegalSide n →
    (visit n).Nodup ∧ (order n).Nodup ∧
    ∀ r c, (r, c) ∈ order n ↔
      r < n ∧ c < n ∧ c ≠ 0 ∧ c ≠ 1 ∧ c ≠ 6 ∧ isFunctionPattern n n r c = false

/-- 43_data_scanner.md R150, 10_state.md R21: how many bits a scan emits; COUNT cannot overflow. -/
def Obligations.OrderLength : Prop :=
  ∀ n, LegalSide n → (order n).length = n * n - 4 * n - 176 ∧ (order n).length ≤ 62821

/-! ## The steps of a scan -/

/-- 43_data_scanner.md R144: a function pattern is skipped: the grid is not read, nothing is emitted, and SEQ goes on;
a `POP` there returns nothing (R146). The host's lines, turns and response are the model's (logs 4, 5, 6). -/
def Obligations.VisitStepSkips : Prop :=
  ∀ (s : State) (k r c : Nat), LegalSide s.size.toNat → s.seq = .scan k →
    (visit s.size.toNat)[k]? = some (r, c) → isFunctionPattern s.size.toNat s.size.toNat r c = true →
    sequencerTurn s = .next
      { s with seq := if k + 1 < s.size.toNat * (s.size.toNat - 3) then .scan (k + 1) else .atEnd } ∧
    popStep s = .next { s with ret := .nothing }

/-- 43_data_scanner.md R145, R146: at a data cell the sequencer waits, and a `POP` returns the module, inverted where
the mask ROM says so, as two bits (30_encoding.md R70); BS and COUNT grow by that bit, and SEQ goes on. The host's lines, turns and response are the
model's (logs 4, 5, 6). -/
def Obligations.VisitStepEmits : Prop :=
  ∀ (s : State) (k r c : Nat), LegalSide s.size.toNat → s.seq = .scan k →
    (visit s.size.toNat)[k]? = some (r, c) → isFunctionPattern s.size.toNat s.size.toNat r c = false →
    sequencerTurn s = .next s ∧
    popStep s = .next
      { s with bs := s.bs ++ [.data (gridRead s.grid r c ^^ shouldInvert s.mask r c)],
               ret := .symbol (0#1 ++ BitVec.ofBool (gridRead s.grid r c ^^ shouldInvert s.mask r c)),
               count := s.count + 1#16,
               seq := if k + 1 < s.size.toNat * (s.size.toNat - 3) then .scan (k + 1) else .atEnd }

/-- 43_data_scanner.md R147: at the end the sequencer waits, and a `POP` returns the sentinel, 10, and ends the command;
COUNT is not incremented. The host's lines, turns and response are the model's (logs 4, 5, 6), and so is that CMDL and
RAWSH keep their values (log 3). -/
def Obligations.EndStepEmitsSentinel : Prop :=
  ∀ s : State, s.seq = .atEnd →
    sequencerTurn s = .next s ∧
    popStep s = .next
      { s with bs := s.bs ++ [.sentinel], ret := .symbol 0b10#2, busy := false, done := true, seq := .idle }

/-- 43_data_scanner.md R146: a `POP` while the block is idle or reads the format returns nothing and changes nothing.
The host's lines, turns and response are the model's (logs 4, 5, 6). -/
def Obligations.PopWithoutSymbol : Prop :=
  ∀ s : State, (s.seq = .idle ∨ ∃ i, s.seq = .fmt i) → popStep s = .next { s with ret := .nothing }

/-- 70_reset_and_hazards.md R240: a host that never performs `POP` (nor reset) leaves the sequencer in the same SEQ
state for ever, with BUSY = 1, whatever else it does; nothing is lost and nothing is emitted. The host's lines, turns
and response are the model's (logs 4, 5, 6). -/
def Obligations.UndrainedScanWaits : Prop :=
  ∀ s : State, LegalSide s.size.toNat → s.busy = true →
    (s.seq = .atEnd ∨ ∃ k r c, s.seq = .scan k ∧ (visit s.size.toNat)[k]? = some (r, c) ∧
      isFunctionPattern s.size.toNat s.size.toNat r c = false) →
    (∀ l ∈ s.hostq, l ≠ .op .pop ∧ l ≠ .drain ∧ l ≠ .reset) →
    ∀ n, ∃ q ts r, runFor n s = .next { s with hostq := q, turns := ts, ret := r }

/-- 43_data_scanner.md R149: while a scan runs, BS is the part of `scan(G, N, MASK)` the walk has reached, an
invariant of every step. The host's lines, turns and response are the model's (logs 4, 5, 6). -/
def Obligations.StreamInvKept : Prop :=
  ∀ s t : State, ControlInv s → StreamInv s → step s = .next t → StreamInv t

/-- 43_data_scanner.md R149, 70_reset_and_hazards.md R244: from an idle block, SCAN driven by a host that performs
`POP` until the sentinel ends after its acceptance, `N*(N-3)` visit steps and the end step, with `BS = scan(G, N, m)`,
COUNT the number of data bits, DONE = 1, ERR = 0, and every other register unchanged. The host's list, the order of
turns and the response are the model's (logs 4, 5, 6, 7), and so are the values CMDL and RAWSH have once the command
has ended (log 3). -/
def Obligations.ScanDeliversStream : Prop :=
  ∀ (s : State) (rest : List HostLine), s.seq = .idle → s.busy = false → LegalSide s.size.toNat → s.turns = [] →
    s.hostq = commandLine .scan :: .drain :: rest →
    runFor (s.size.toNat * (s.size.toNat - 3) + 2) s = .next
      { s with hostq := rest, ret := .symbol 0b10#2, done := true, err := 0#4, cmdl := .scan,
               bs := scanSymbols s.grid s.size.toNat s.mask,
               count := BitVec.ofNat 16 (order s.size.toNat).length }

/-- 44_control_commands.md R163: RUN and the host sequence FMT, WAIT, SCAN, both drained, end with the same FMTRAW,
FMTINFO, MASK, COUNT, BS and STATUS. The host's lines, turns and response are the model's (logs 4, 5, 6, 7). -/
def Obligations.RunIsFmtThenScan : Prop :=
  ∀ s : State, s.seq = .idle → s.busy = false → LegalSide s.size.toNat → s.turns = [] →
    ∃ m n t u,
      runFor m { s with hostq := [commandLine .run, .drain] } = .next t ∧
      runFor n { s with hostq := [commandLine .fmt, .wait, commandLine .scan, .drain] } = .next u ∧
      t.hostq = [] ∧ u.hostq = [] ∧ t.seq = .idle ∧ u.seq = .idle ∧
      t.bs = scanSymbols s.grid s.size.toNat (formatInfo s.grid s.size.toNat).mid ∧
      t.fmtraw = u.fmtraw ∧ t.fmtinfo = u.fmtinfo ∧ t.mask = u.mask ∧ t.count = u.count ∧ t.bs = u.bs ∧
      statusWord t = statusWord u

/-- 43_data_scanner.md R148: the scan is a function of the data cells of columns 2 to 5 and 7 to `N-1`, of `N` and of
`m`: two grids that agree there give the same symbols. -/
def Obligations.ScanReadsVisitedDataCellsOnly : Prop :=
  ∀ (g g' : Memory) (n : Nat) (m : MaskId), LegalSide n →
    (∀ r c, r < n → 2 ≤ c → c < n → c ≠ 6 → isFunctionPattern n n r c = false →
      gridRead g r c = gridRead g' r c) →
    scanSymbols g n m = scanSymbols g' n m

/-! ## The register file -/

/-- 10_state.md R13, R14, R16, R22, R29: what a host reads from each register number; the bits above a register's width and
the reserved bits of STATUS read 0, and so do CMD and the reserved numbers. -/
def Obligations.RegisterReads : Prop :=
  ∀ s : State,
    readReg s 0#4 = 0#16 ∧
    (readReg s 1#4).toNat = s.busy.toNat + 2 * s.done.toNat + 4 * s.fmtv.toNat + 16 * s.err.toNat ∧
    (readReg s 2#4).toNat = s.size.toNat ∧ (readReg s 3#4).toNat = s.mask.toNat ∧
    (readReg s 4#4).toNat = s.fmtraw.toNat ∧ (readReg s 5#4).toNat = s.fmtinfo.toNat ∧
    readReg s 6#4 = s.count ∧
    (LegalSide s.size.toNat → (readReg s 7#4).toNat = (s.size.toNat - 21) / 4 + 1) ∧
    (¬ LegalSide s.size.toNat → readReg s 7#4 = 0#16) ∧ (readReg s 8#4).toNat = s.prow.toNat ∧
    (readReg s 9#4).toNat = s.pcol.toNat ∧ (readReg s 10#4).toNat = s.pres.toNat ∧
    ∀ n : RegNum, 11 ≤ n.toNat → readReg s n = 0#16

/-- 10_state.md R13, R17, R18, R23, R29: a register write to an idle block stores the low 8 bits into SIZE, PROW or
PCOL or the low 3 bits into MASK; a write to any other number but CMD is ignored; nothing else changes. The host's
lines, turns and response are the model's (logs 4, 5, 6). -/
def Obligations.RegisterWrites : Prop :=
  ∀ (s : State) (n : RegNum) (v : Word) (rest : List HostLine),
    nextAgent s = .host → s.hostq = .op (.wr n v) :: rest → s.busy = false → n ≠ 0#4 →
    step s = .next
      { s with hostq := rest, turns := s.turns.tail, ret := .nothing,
               size := if n = 2#4 then v.extractLsb' 0 8 else s.size,
               mask := if n = 3#4 then v.extractLsb' 0 3 else s.mask,
               prow := if n = 8#4 then v.extractLsb' 0 8 else s.prow,
               pcol := if n = 9#4 then v.extractLsb' 0 8 else s.pcol }

/-- 10_state.md R22: VERSION is a function of SIZE, at least 1 for a legal SIZE and 0 otherwise, and a write to it is
ignored. -/
def Obligations.VersionRegister : Prop :=
  ∀ s : State,
    (LegalSide s.size.toNat →
      (readReg s 7#4).toNat = (s.size.toNat - 21) / 4 + 1 ∧ 1 ≤ (readReg s 7#4).toNat) ∧
    (¬ LegalSide s.size.toNat → readReg s 7#4 = 0#16) ∧
    ∀ v, writeReg 7#4 v s = s

/-- 10_state.md R30, 20_memory.md R40: a register read is always allowed, returns the register's value and has no side
effect. The host's lines, turns and response are the model's (logs 4, 5, 6). -/
def Obligations.ReadHasNoSideEffect : Prop :=
  ∀ (s : State) (n : RegNum) (rest : List HostLine),
    nextAgent s = .host → s.hostq = .op (.rd n) :: rest →
    step s = .next { s with hostq := rest, turns := s.turns.tail, ret := .word (readReg s n) }

/-- 60_exceptions.md R218: a register read and a sequencer step can be taken in either order; only the word the host
gets may differ. The host's lines, turns and response are the model's (logs 4, 5, 6). -/
def Obligations.ReadAndSequencerCommute : Prop :=
  ∀ (s u : State) (n : RegNum), sequencerTurn s = .next u →
    ∃ a b c, performOp (.rd n) s = .next a ∧ sequencerTurn a = .next b ∧ performOp (.rd n) u = .next c ∧
      { b with ret := .nothing } = { c with ret := .nothing }

/-! ## Reset -/

/-- 10_state.md R35: the state after reset, but for CMDL and RAWSH, which the rule leaves unspecified (log 3); every
register reads 0. That no cell has been written is the model's deduction (log 13). -/
def Obligations.ResetValues : Prop :=
  State.reset.seq = .idle ∧ State.reset.busy = false ∧ State.reset.done = false ∧ State.reset.fmtv = false ∧
  State.reset.err = 0#4 ∧ State.reset.size = 0#8 ∧ State.reset.mask = 0#3 ∧ State.reset.fmtraw = 0#15 ∧
  State.reset.fmtinfo = 0#15 ∧ State.reset.count = 0#16 ∧ State.reset.prow = 0#8 ∧ State.reset.pcol = 0#8 ∧
  State.reset.pres = 0#4 ∧ State.reset.bs = [] ∧ offered State.reset = .ok none ∧
  (∀ r c, gridWritten State.reset.grid r c = false) ∧ ∀ n, readReg State.reset n = 0#16

/-- 70_reset_and_hazards.md R230, R231, R232: reset at any time, a running command included, puts everything but the
grid store into the state of 10_state.md R35; the grid store does not change. The host's lines, turns and response are
the model's (logs 4, 5, 6). -/
def Obligations.ResetEvent : Prop :=
  ∀ (s : State) (rest : List HostLine), nextAgent s = .host → s.hostq = .reset :: rest →
    ∃ t, step s = .next t ∧ t.grid = s.grid ∧ t.hostq = rest ∧ t.turns = s.turns.tail ∧
      t.seq = .idle ∧ t.busy = false ∧ t.done = false ∧ t.fmtv = false ∧ t.err = 0#4 ∧ t.size = 0#8 ∧
      t.mask = 0#3 ∧ t.fmtraw = 0#15 ∧ t.fmtinfo = 0#15 ∧ t.count = 0#16 ∧ t.prow = 0#8 ∧ t.pcol = 0#8 ∧
      t.pres = 0#4 ∧ t.bs = [] ∧ offered t = .ok none

/-! ## The grid store -/

/-- 20_memory.md R46, R47: a grid write inside the store of an idle block changes that one cell and nothing else; one
outside the store is dropped. The host's lines, turns and response are the model's (logs 4, 5, 6). -/
def Obligations.GridWriteChangesOneCell : Prop :=
  ∀ (s : State) (r c : Coord) (b : Bool) (rest : List HostLine),
    nextAgent s = .host → s.hostq = .op (.gw r c b) :: rest → s.busy = false →
    ∃ g, step s = .next { s with hostq := rest, turns := s.turns.tail, ret := .nothing, grid := g } ∧
      (r.toNat < Config.NMAX ∧ c.toNat < Config.NMAX →
        gridRead g r.toNat c.toNat = b ∧
        ∀ r' c' : Coord, ¬ (r' = r ∧ c' = c) →
          gridRead g r'.toNat c'.toNat = gridRead s.grid r'.toNat c'.toNat) ∧
      (¬ (r.toNat < Config.NMAX ∧ c.toNat < Config.NMAX) → g = s.grid)

/-- 10_state.md R12: the block never writes the grid: a step changes it only where the host performs a grid write
inside the store while BUSY = 0. The host's lines, turns and response are the model's (logs 4, 5, 6). -/
def Obligations.GridChangesOnlyByGridWrite : Prop :=
  ∀ s t : State, step s = .next t → t.grid ≠ s.grid →
    s.busy = false ∧ nextAgent s = .host ∧
    ∃ r c b rest, s.hostq = .op (.gw r c b) :: rest ∧ r.toNat < Config.NMAX ∧ c.toNat < Config.NMAX ∧
      t.grid = gridWrite s.grid r.toNat c.toNat b

/-- 20_memory.md R51, 10_state.md R30: while BUSY = 1 no step but a reset changes the grid, SIZE, PROW, PCOL or PRES,
and MASK changes only at the moment a format read completes. The host's lines, turns and response are the model's
(logs 4, 5, 6). -/
def Obligations.OperandsConstantWhileBusy : Prop :=
  ∀ s t : State, s.busy = true → step s = .next t →
    ¬ (nextAgent s = .host ∧ ∃ rest, s.hostq = .reset :: rest) →
    t.grid = s.grid ∧ t.size = s.size ∧ t.prow = s.prow ∧ t.pcol = s.pcol ∧ t.pres = s.pres ∧
    (t.mask ≠ s.mask → s.seq = .fmt 14 ∧ t.fmtv = true)

/-! ## Invariants of the whole machine -/

/-- The four invariants hold at reset (10_state.md R35), where the grid store lists no cell (logs 8, 13). -/
def Obligations.InvariantsAtReset : Prop :=
  ControlInv State.reset ∧ RegisterInv State.reset ∧ FormatInv State.reset ∧ StreamInv State.reset

/-- 10_state.md R16, R27 and 60_exceptions.md R201, R210, R211: BUSY is 1 exactly when SEQ is not IDLE, SEQ stays in
its domain, only the codes 0, 1, 2 and 6 appear, the grid store keeps its canonical form: an invariant of every step.
The host's lines, turns and response are the model's (logs 4, 5, 6). -/
def Obligations.ControlInvKept : Prop :=
  ∀ s t : State, ControlInv s → step s = .next t → ControlInv t

/-- 20_memory.md R45, 40_format_demux.md R92, 43_data_scanner.md R143: every read the block makes is in range and no
error can occur after acceptance: from a state that meets the invariant the machine never stops. -/
def Obligations.ControlledMachineNeverStops : Prop :=
  ∀ s : State, ControlInv s → neverStops s

/-- 10_state.md R21, R24, R25, 40_format_demux.md R89, 43_data_scanner.md R147: what COUNT, FMTINFO, PRES and BS hold
between any two steps. The host's lines, turns and response are the model's (logs 4, 5, 6). -/
def Obligations.RegisterInvKept : Prop :=
  ∀ s t : State, ControlInv s → RegisterInv s → step s = .next t → RegisterInv t

/-- 60_exceptions.md R208: ERR and DONE of an idle block keep their values until a command other than NOP is accepted
or the block is reset. The host's lines, turns and response are the model's (logs 4, 5, 6). -/
def Obligations.ErrorReportPersists : Prop :=
  ∀ s t : State, ControlInv s → s.busy = false → step s = .next t → (t.err ≠ s.err ∨ t.done ≠ s.done) →
    nextAgent s = .host ∧
    ((∃ rest, s.hostq = .reset :: rest) ∨
      ∃ v rest, s.hostq = .op (.wr 0#4 v) :: rest ∧ v.extractLsb' 0 8 ≠ 0#8)

/-- 20_memory.md R48, 40_format_demux.md R88: FMTRAW, FMTINFO and FMTV = 1 appear together, in the one step that
completes a format read, and MASK with them. The host's lines, turns and response are the model's (logs 4, 5, 6). -/
def Obligations.FormatRegistersChangeTogether : Prop :=
  ∀ s t : State, step s = .next t →
    (t.fmtraw ≠ s.fmtraw ∨ t.fmtinfo ≠ s.fmtinfo ∨ (s.fmtv = false ∧ t.fmtv = true)) →
    (nextAgent s = .host ∧ ∃ rest, s.hostq = .reset :: rest) ∨
    (s.seq = .fmt 14 ∧ t.fmtv = true ∧ t.fmtinfo = t.fmtraw ^^^ 0x5412#15 ∧
      t.mask = t.fmtinfo.extractLsb' 10 3)

/-! ## The environment -/

/-- 45_environment_collaborators.md R181 to R184: the interpreter reads back the mode, the length and the bytes of a
segment written big-endian into the stream, whatever follows it. -/
def Obligations.InterpretReadsSegment : Prop :=
  ∀ (mode : BitVec 4) (payload : List (BitVec 8)) (tail : List Bool), payload.length < 256 →
    interpret
      ((bitsHigh mode ++ bitsHigh (BitVec.ofNat 8 payload.length) ++ payload.flatMap bitsHigh ++ tail).map
        Symbol.data ++ [.sentinel]) =
      .ok { mode := dataModeOf mode.toNat, length := payload.length, payload := payload }

/-- 45_environment_collaborators.md R185, 43_data_scanner.md R150: on the stream of any scan the interpreter fails,
with InsufficientData, exactly when the length field asks for more bytes than the stream has. -/
def Obligations.InterpretFailsOnShortStream : Prop :=
  ∀ (g : Memory) (n : Nat) (m : MaskId), LegalSide n →
    (interpret (scanSymbols g n m) = .error .insufficientData ↔
      n * n - 4 * n - 176 < 12 + 8 * bitsAt (scanBits g n m) 4 8)
end

