-- ==== Sys2Proof/Laws/Bits.lean ====
section
/-! SUPPORT. Bits of a register against sequences of bits. -/

namespace Sys2Proof.Machine

/-- Bit `i` of the number a sequence stands for, first element least significant. -/
theorem testBit_foldr (bits : List Bool) (i : Nat) :
    (bits.foldr (fun (b : Bool) n => 2 * n + b.toNat) 0).testBit i = bits.getD i false := by
  induction bits generalizing i with
  | nil => simp
  | cons b rest ih =>
    rw [List.foldr_cons]
    cases i with
    | zero => cases b <;> simp [Nat.testBit_zero]
    | succ i =>
      rw [Nat.testBit_succ, List.getD_cons_succ, ← ih]
      congr 1
      cases b
      · simp
      · simp
        omega

/-- Bit `i` of `packLow` is element `i`. -/
theorem getLsbD_packLow {w : Nat} (bits : List Bool) {i : Nat} (h : i < w) :
    (packLow w bits).getLsbD i = bits.getD i false := by
  simp only [packLow, BitVec.getLsbD_ofNat, h, decide_true, Bool.true_and, testBit_foldr]

/-- `bitsLow` has one element a bit. -/
@[simp] theorem bitsLow_length {w : Nat} (x : BitVec w) : (bitsLow x).length = w := by simp [bitsLow]

/-- Element `i` of `bitsLow` is bit `i`. -/
theorem bitsLow_getD {w : Nat} (x : BitVec w) {i : Nat} (h : i < w) : (bitsLow x).getD i false = x.getLsbD i := by
  simp [bitsLow, h]

/-- Reading a register's bits and packing them again gives the register. -/
theorem packLow_bitsLow {w : Nat} (x : BitVec w) : packLow w (bitsLow x) = x := by
  apply BitVec.eq_of_getLsbD_eq
  intro i hi
  rw [getLsbD_packLow _ hi, bitsLow_getD _ hi]

/-- Packing `w` bits and reading them again gives the bits. -/
theorem bitsLow_packLow {bits : List Bool} : bitsLow (packLow bits.length bits) = bits := by
  apply List.ext_getElem (by simp)
  intro i h1 h2
  have h := bitsLow_getD (packLow bits.length bits) h2
  rw [getLsbD_packLow _ h2] at h
  simpa [List.getD_eq_getElem?_getD, h1, h2] using h

/-- `putBit` changes the one bit it names. -/
theorem getLsbD_putBit {w : Nat} (x : BitVec w) (i : Nat) (b : Bool) {j : Nat} (h : j < w) :
    (putBit x i b).getLsbD j = if j = i then b else x.getLsbD j := by
  unfold putBit
  have key : (1#w <<< i).getLsbD j = decide (j = i) := by
    simp only [BitVec.getLsbD_shiftLeft, BitVec.getLsbD_one, h, decide_true, Bool.true_and]
    by_cases hji : j = i
    · subst hji; simp; omega
    · by_cases hlt : j < i
      · simp [hlt, hji]
      · have : ¬ j - i = 0 := by omega
        simp [this, hji]
  cases b
  · simp only [Bool.false_eq_true, if_false, BitVec.getLsbD_and, BitVec.getLsbD_not, key, h, decide_true, Bool.true_and]
    by_cases hji : j = i <;> simp [hji]
  · simp only [if_true, BitVec.getLsbD_or, key]
    by_cases hji : j = i <;> simp [hji]

/-! ## The two bits of a stream symbol (30_encoding.md R70) -/

@[simp] theorem symbolCode_data (b : Bool) : symbolCode (.data b) = 0#1 ++ BitVec.ofBool b := rfl

@[simp] theorem symbolCode_sentinel : symbolCode .sentinel = 2#2 := rfl

/-- A data bit is not carried as the sentinel is. -/
@[simp] theorem dataCode_ne_sentinelCode (b : Bool) : (0#1 ++ BitVec.ofBool b : SymbolCode) ≠ 2#2 := by
  cases b <;> decide

/-- The host reads back the symbol that the port carried. -/
@[simp] theorem symbolOfCode_symbolCode (x : Symbol) : symbolOfCode (symbolCode x) = some x := by
  cases x with
  | data b => cases b <;> rfl
  | sentinel => rfl

/-- From the two-bit symbols it took, the host has the whole of BS (10_state.md R25). -/
theorem streamCodes_decode (s : State) : (streamCodes s).filterMap symbolOfCode = s.bs := by
  simp [streamCodes, List.filterMap_map]

/-- "never produced" (30_encoding.md R70). -/
theorem symbolCode_ne_three (x : Symbol) : symbolCode x ≠ 3#2 := by
  intro h
  have := symbolOfCode_symbolCode x
  rw [h] at this
  cases this

/-- Only the sentinel has the code 2, so a DRAIN ends at it and nowhere else (30_encoding.md R66). -/
theorem symbolCode_eq_sentinel_iff (x : Symbol) : symbolCode x = symbolCode .sentinel ↔ x = .sentinel := by
  constructor
  · intro h
    have hx := symbolOfCode_symbolCode x
    rw [h, symbolOfCode_symbolCode] at hx
    exact (Option.some.inj hx).symm
  · rintro rfl
    rfl

end Sys2Proof.Machine
end

