-- ==== Sys2Proof/Laws/Config.lean ====
section
/-! SUPPORT. What is known of the open side of the grid store, and what a legal SIZE is. -/

namespace Sys2Proof

/-- 00_scope.md R6: the three constraints on NMAX. -/
theorem Config.NMAX_bounds : 21 ≤ Config.NMAX ∧ Config.NMAX ≤ 253 ∧ (Config.NMAX - 21) % 4 = 0 := by
  have h := Config.nmaxSteps.isLt
  unfold Config.NMAX
  omega

namespace Machine

/-- `withinNmax` decides `n <= NMAX`. -/
@[simp] theorem withinNmax_iff (n : Nat) : withinNmax n = true ↔ n ≤ Config.NMAX := by
  have h := Config.NMAX_bounds.1
  simp only [withinNmax, Bool.or_eq_true, decide_eq_true_eq]
  omega

/-- `legalSize` as 60_exceptions.md R203 writes it. -/
theorem legalSize_iff (n : Nat) :
    legalSize n = true ↔ 21 ≤ n ∧ n ≤ Config.NMAX ∧ (n - 21) % 4 = 0 := by
  simp only [legalSize, Bool.and_eq_true, decide_eq_true_eq, withinNmax_iff]
  constructor <;> rintro ⟨h1, h2⟩ <;> omega

/-- A cell of the store has both coordinates below NMAX. -/
theorem inStore_iff (r c : Nat) : inStore r c = true ↔ r < Config.NMAX ∧ c < Config.NMAX := by
  simp only [inStore, Bool.and_eq_true, withinNmax_iff, Nat.lt_iff_add_one_le]

/-- What every use of a legal side needs. -/
theorem legalSize_bounds {n : Nat} (h : legalSize n = true) : 21 ≤ n ∧ n ≤ 253 ∧ (n - 21) % 4 = 0 := by
  have hb := Config.NMAX_bounds
  have hn := (legalSize_iff n).1 h
  omega

/-- SIZE = 21 is legal whatever the store. -/
theorem legalSize_21 : legalSize 21 = true := by decide

end Machine

end Sys2Proof
end

