-- ==== Sys2Proof/Laws/State.lean ====
section
/-! SUPPORT. Every field after every named update, so that no proof unfolds a record update. -/

namespace Sys2Proof.Machine

/-! ## clearReport -/

@[simp] theorem clearReport_grid (s : State) : (clearReport s).grid = s.grid := rfl
@[simp] theorem clearReport_size (s : State) : (clearReport s).size = s.size := rfl
@[simp] theorem clearReport_busy (s : State) : (clearReport s).busy = s.busy := rfl
@[simp] theorem clearReport_done (s : State) : (clearReport s).done = false := rfl
@[simp] theorem clearReport_fmtv (s : State) : (clearReport s).fmtv = s.fmtv := rfl
@[simp] theorem clearReport_err (s : State) : (clearReport s).err = 0#4 := rfl
@[simp] theorem clearReport_mask (s : State) : (clearReport s).mask = s.mask := rfl
@[simp] theorem clearReport_fmtraw (s : State) : (clearReport s).fmtraw = s.fmtraw := rfl
@[simp] theorem clearReport_fmtinfo (s : State) : (clearReport s).fmtinfo = s.fmtinfo := rfl
@[simp] theorem clearReport_count (s : State) : (clearReport s).count = s.count := rfl
@[simp] theorem clearReport_prow (s : State) : (clearReport s).prow = s.prow := rfl
@[simp] theorem clearReport_pcol (s : State) : (clearReport s).pcol = s.pcol := rfl
@[simp] theorem clearReport_pres (s : State) : (clearReport s).pres = s.pres := rfl
@[simp] theorem clearReport_seq (s : State) : (clearReport s).seq = s.seq := rfl
@[simp] theorem clearReport_cmdl (s : State) : (clearReport s).cmdl = s.cmdl := rfl
@[simp] theorem clearReport_rawsh (s : State) : (clearReport s).rawsh = s.rawsh := rfl
@[simp] theorem clearReport_bs (s : State) : (clearReport s).bs = s.bs := rfl
@[simp] theorem clearReport_hostq (s : State) : (clearReport s).hostq = s.hostq := rfl
@[simp] theorem clearReport_turns (s : State) : (clearReport s).turns = s.turns := rfl
@[simp] theorem clearReport_ret (s : State) : (clearReport s).ret = s.ret := rfl
@[simp] theorem clearReport_side (s : State) : side (clearReport s) = side s := rfl

/-! ## reportError -/

@[simp] theorem reportError_grid (e : ErrorKind) (s : State) : (reportError e s).grid = s.grid := rfl
@[simp] theorem reportError_size (e : ErrorKind) (s : State) : (reportError e s).size = s.size := rfl
@[simp] theorem reportError_busy (e : ErrorKind) (s : State) : (reportError e s).busy = s.busy := rfl
@[simp] theorem reportError_done (e : ErrorKind) (s : State) : (reportError e s).done = false := rfl
@[simp] theorem reportError_fmtv (e : ErrorKind) (s : State) : (reportError e s).fmtv = s.fmtv := rfl
@[simp] theorem reportError_err (e : ErrorKind) (s : State) : (reportError e s).err = errorCode e := rfl
@[simp] theorem reportError_mask (e : ErrorKind) (s : State) : (reportError e s).mask = s.mask := rfl
@[simp] theorem reportError_fmtraw (e : ErrorKind) (s : State) : (reportError e s).fmtraw = s.fmtraw := rfl
@[simp] theorem reportError_fmtinfo (e : ErrorKind) (s : State) : (reportError e s).fmtinfo = s.fmtinfo := rfl
@[simp] theorem reportError_count (e : ErrorKind) (s : State) : (reportError e s).count = s.count := rfl
@[simp] theorem reportError_prow (e : ErrorKind) (s : State) : (reportError e s).prow = s.prow := rfl
@[simp] theorem reportError_pcol (e : ErrorKind) (s : State) : (reportError e s).pcol = s.pcol := rfl
@[simp] theorem reportError_pres (e : ErrorKind) (s : State) : (reportError e s).pres = s.pres := rfl
@[simp] theorem reportError_seq (e : ErrorKind) (s : State) : (reportError e s).seq = s.seq := rfl
@[simp] theorem reportError_cmdl (e : ErrorKind) (s : State) : (reportError e s).cmdl = s.cmdl := rfl
@[simp] theorem reportError_rawsh (e : ErrorKind) (s : State) : (reportError e s).rawsh = s.rawsh := rfl
@[simp] theorem reportError_bs (e : ErrorKind) (s : State) : (reportError e s).bs = s.bs := rfl
@[simp] theorem reportError_hostq (e : ErrorKind) (s : State) : (reportError e s).hostq = s.hostq := rfl
@[simp] theorem reportError_turns (e : ErrorKind) (s : State) : (reportError e s).turns = s.turns := rfl
@[simp] theorem reportError_ret (e : ErrorKind) (s : State) : (reportError e s).ret = s.ret := rfl
@[simp] theorem reportError_side (e : ErrorKind) (s : State) : side (reportError e s) = side s := rfl

/-! ## latchCommand -/

@[simp] theorem latchCommand_grid (c : LatchedCommand) (s : State) : (latchCommand c s).grid = s.grid := rfl
@[simp] theorem latchCommand_size (c : LatchedCommand) (s : State) : (latchCommand c s).size = s.size := rfl
@[simp] theorem latchCommand_busy (c : LatchedCommand) (s : State) : (latchCommand c s).busy = true := rfl
@[simp] theorem latchCommand_done (c : LatchedCommand) (s : State) : (latchCommand c s).done = s.done := rfl
@[simp] theorem latchCommand_fmtv (c : LatchedCommand) (s : State) : (latchCommand c s).fmtv = s.fmtv := rfl
@[simp] theorem latchCommand_err (c : LatchedCommand) (s : State) : (latchCommand c s).err = s.err := rfl
@[simp] theorem latchCommand_mask (c : LatchedCommand) (s : State) : (latchCommand c s).mask = s.mask := rfl
@[simp] theorem latchCommand_fmtraw (c : LatchedCommand) (s : State) : (latchCommand c s).fmtraw = s.fmtraw := rfl
@[simp] theorem latchCommand_fmtinfo (c : LatchedCommand) (s : State) : (latchCommand c s).fmtinfo = s.fmtinfo := rfl
@[simp] theorem latchCommand_count (c : LatchedCommand) (s : State) : (latchCommand c s).count = s.count := rfl
@[simp] theorem latchCommand_prow (c : LatchedCommand) (s : State) : (latchCommand c s).prow = s.prow := rfl
@[simp] theorem latchCommand_pcol (c : LatchedCommand) (s : State) : (latchCommand c s).pcol = s.pcol := rfl
@[simp] theorem latchCommand_pres (c : LatchedCommand) (s : State) : (latchCommand c s).pres = s.pres := rfl
@[simp] theorem latchCommand_seq (c : LatchedCommand) (s : State) : (latchCommand c s).seq = s.seq := rfl
@[simp] theorem latchCommand_cmdl (c : LatchedCommand) (s : State) : (latchCommand c s).cmdl = c := rfl
@[simp] theorem latchCommand_rawsh (c : LatchedCommand) (s : State) : (latchCommand c s).rawsh = s.rawsh := rfl
@[simp] theorem latchCommand_bs (c : LatchedCommand) (s : State) : (latchCommand c s).bs = s.bs := rfl
@[simp] theorem latchCommand_hostq (c : LatchedCommand) (s : State) : (latchCommand c s).hostq = s.hostq := rfl
@[simp] theorem latchCommand_turns (c : LatchedCommand) (s : State) : (latchCommand c s).turns = s.turns := rfl
@[simp] theorem latchCommand_ret (c : LatchedCommand) (s : State) : (latchCommand c s).ret = s.ret := rfl
@[simp] theorem latchCommand_side (c : LatchedCommand) (s : State) : side (latchCommand c s) = side s := rfl

/-! ## setDone -/

@[simp] theorem setDone_grid (s : State) : (setDone s).grid = s.grid := rfl
@[simp] theorem setDone_size (s : State) : (setDone s).size = s.size := rfl
@[simp] theorem setDone_busy (s : State) : (setDone s).busy = s.busy := rfl
@[simp] theorem setDone_done (s : State) : (setDone s).done = true := rfl
@[simp] theorem setDone_fmtv (s : State) : (setDone s).fmtv = s.fmtv := rfl
@[simp] theorem setDone_err (s : State) : (setDone s).err = s.err := rfl
@[simp] theorem setDone_mask (s : State) : (setDone s).mask = s.mask := rfl
@[simp] theorem setDone_fmtraw (s : State) : (setDone s).fmtraw = s.fmtraw := rfl
@[simp] theorem setDone_fmtinfo (s : State) : (setDone s).fmtinfo = s.fmtinfo := rfl
@[simp] theorem setDone_count (s : State) : (setDone s).count = s.count := rfl
@[simp] theorem setDone_prow (s : State) : (setDone s).prow = s.prow := rfl
@[simp] theorem setDone_pcol (s : State) : (setDone s).pcol = s.pcol := rfl
@[simp] theorem setDone_pres (s : State) : (setDone s).pres = s.pres := rfl
@[simp] theorem setDone_seq (s : State) : (setDone s).seq = s.seq := rfl
@[simp] theorem setDone_cmdl (s : State) : (setDone s).cmdl = s.cmdl := rfl
@[simp] theorem setDone_rawsh (s : State) : (setDone s).rawsh = s.rawsh := rfl
@[simp] theorem setDone_bs (s : State) : (setDone s).bs = s.bs := rfl
@[simp] theorem setDone_hostq (s : State) : (setDone s).hostq = s.hostq := rfl
@[simp] theorem setDone_turns (s : State) : (setDone s).turns = s.turns := rfl
@[simp] theorem setDone_ret (s : State) : (setDone s).ret = s.ret := rfl
@[simp] theorem setDone_side (s : State) : side (setDone s) = side s := rfl

/-! ## endCommand -/

@[simp] theorem endCommand_grid (s : State) : (endCommand s).grid = s.grid := rfl
@[simp] theorem endCommand_size (s : State) : (endCommand s).size = s.size := rfl
@[simp] theorem endCommand_busy (s : State) : (endCommand s).busy = false := rfl
@[simp] theorem endCommand_done (s : State) : (endCommand s).done = true := rfl
@[simp] theorem endCommand_fmtv (s : State) : (endCommand s).fmtv = s.fmtv := rfl
@[simp] theorem endCommand_err (s : State) : (endCommand s).err = s.err := rfl
@[simp] theorem endCommand_mask (s : State) : (endCommand s).mask = s.mask := rfl
@[simp] theorem endCommand_fmtraw (s : State) : (endCommand s).fmtraw = s.fmtraw := rfl
@[simp] theorem endCommand_fmtinfo (s : State) : (endCommand s).fmtinfo = s.fmtinfo := rfl
@[simp] theorem endCommand_count (s : State) : (endCommand s).count = s.count := rfl
@[simp] theorem endCommand_prow (s : State) : (endCommand s).prow = s.prow := rfl
@[simp] theorem endCommand_pcol (s : State) : (endCommand s).pcol = s.pcol := rfl
@[simp] theorem endCommand_pres (s : State) : (endCommand s).pres = s.pres := rfl
@[simp] theorem endCommand_seq (s : State) : (endCommand s).seq = .idle := rfl
@[simp] theorem endCommand_cmdl (s : State) : (endCommand s).cmdl = s.cmdl := rfl
@[simp] theorem endCommand_rawsh (s : State) : (endCommand s).rawsh = s.rawsh := rfl
@[simp] theorem endCommand_bs (s : State) : (endCommand s).bs = s.bs := rfl
@[simp] theorem endCommand_hostq (s : State) : (endCommand s).hostq = s.hostq := rfl
@[simp] theorem endCommand_turns (s : State) : (endCommand s).turns = s.turns := rfl
@[simp] theorem endCommand_ret (s : State) : (endCommand s).ret = s.ret := rfl
@[simp] theorem endCommand_side (s : State) : side (endCommand s) = side s := rfl

/-! ## withHostq -/

@[simp] theorem withHostq_grid (q : List HostLine) (s : State) : (withHostq q s).grid = s.grid := rfl
@[simp] theorem withHostq_size (q : List HostLine) (s : State) : (withHostq q s).size = s.size := rfl
@[simp] theorem withHostq_busy (q : List HostLine) (s : State) : (withHostq q s).busy = s.busy := rfl
@[simp] theorem withHostq_done (q : List HostLine) (s : State) : (withHostq q s).done = s.done := rfl
@[simp] theorem withHostq_fmtv (q : List HostLine) (s : State) : (withHostq q s).fmtv = s.fmtv := rfl
@[simp] theorem withHostq_err (q : List HostLine) (s : State) : (withHostq q s).err = s.err := rfl
@[simp] theorem withHostq_mask (q : List HostLine) (s : State) : (withHostq q s).mask = s.mask := rfl
@[simp] theorem withHostq_fmtraw (q : List HostLine) (s : State) : (withHostq q s).fmtraw = s.fmtraw := rfl
@[simp] theorem withHostq_fmtinfo (q : List HostLine) (s : State) : (withHostq q s).fmtinfo = s.fmtinfo := rfl
@[simp] theorem withHostq_count (q : List HostLine) (s : State) : (withHostq q s).count = s.count := rfl
@[simp] theorem withHostq_prow (q : List HostLine) (s : State) : (withHostq q s).prow = s.prow := rfl
@[simp] theorem withHostq_pcol (q : List HostLine) (s : State) : (withHostq q s).pcol = s.pcol := rfl
@[simp] theorem withHostq_pres (q : List HostLine) (s : State) : (withHostq q s).pres = s.pres := rfl
@[simp] theorem withHostq_seq (q : List HostLine) (s : State) : (withHostq q s).seq = s.seq := rfl
@[simp] theorem withHostq_cmdl (q : List HostLine) (s : State) : (withHostq q s).cmdl = s.cmdl := rfl
@[simp] theorem withHostq_rawsh (q : List HostLine) (s : State) : (withHostq q s).rawsh = s.rawsh := rfl
@[simp] theorem withHostq_bs (q : List HostLine) (s : State) : (withHostq q s).bs = s.bs := rfl
@[simp] theorem withHostq_hostq (q : List HostLine) (s : State) : (withHostq q s).hostq = q := rfl
@[simp] theorem withHostq_turns (q : List HostLine) (s : State) : (withHostq q s).turns = s.turns := rfl
@[simp] theorem withHostq_ret (q : List HostLine) (s : State) : (withHostq q s).ret = s.ret := rfl
@[simp] theorem withHostq_side (q : List HostLine) (s : State) : side (withHostq q s) = side s := rfl

/-! ## withRet -/

@[simp] theorem withRet_grid (r : Response) (s : State) : (withRet r s).grid = s.grid := rfl
@[simp] theorem withRet_size (r : Response) (s : State) : (withRet r s).size = s.size := rfl
@[simp] theorem withRet_busy (r : Response) (s : State) : (withRet r s).busy = s.busy := rfl
@[simp] theorem withRet_done (r : Response) (s : State) : (withRet r s).done = s.done := rfl
@[simp] theorem withRet_fmtv (r : Response) (s : State) : (withRet r s).fmtv = s.fmtv := rfl
@[simp] theorem withRet_err (r : Response) (s : State) : (withRet r s).err = s.err := rfl
@[simp] theorem withRet_mask (r : Response) (s : State) : (withRet r s).mask = s.mask := rfl
@[simp] theorem withRet_fmtraw (r : Response) (s : State) : (withRet r s).fmtraw = s.fmtraw := rfl
@[simp] theorem withRet_fmtinfo (r : Response) (s : State) : (withRet r s).fmtinfo = s.fmtinfo := rfl
@[simp] theorem withRet_count (r : Response) (s : State) : (withRet r s).count = s.count := rfl
@[simp] theorem withRet_prow (r : Response) (s : State) : (withRet r s).prow = s.prow := rfl
@[simp] theorem withRet_pcol (r : Response) (s : State) : (withRet r s).pcol = s.pcol := rfl
@[simp] theorem withRet_pres (r : Response) (s : State) : (withRet r s).pres = s.pres := rfl
@[simp] theorem withRet_seq (r : Response) (s : State) : (withRet r s).seq = s.seq := rfl
@[simp] theorem withRet_cmdl (r : Response) (s : State) : (withRet r s).cmdl = s.cmdl := rfl
@[simp] theorem withRet_rawsh (r : Response) (s : State) : (withRet r s).rawsh = s.rawsh := rfl
@[simp] theorem withRet_bs (r : Response) (s : State) : (withRet r s).bs = s.bs := rfl
@[simp] theorem withRet_hostq (r : Response) (s : State) : (withRet r s).hostq = s.hostq := rfl
@[simp] theorem withRet_turns (r : Response) (s : State) : (withRet r s).turns = s.turns := rfl
@[simp] theorem withRet_ret (r : Response) (s : State) : (withRet r s).ret = r := rfl
@[simp] theorem withRet_side (r : Response) (s : State) : side (withRet r s) = side s := rfl

/-! ## dropTurn -/

@[simp] theorem dropTurn_grid (s : State) : (dropTurn s).grid = s.grid := rfl
@[simp] theorem dropTurn_size (s : State) : (dropTurn s).size = s.size := rfl
@[simp] theorem dropTurn_busy (s : State) : (dropTurn s).busy = s.busy := rfl
@[simp] theorem dropTurn_done (s : State) : (dropTurn s).done = s.done := rfl
@[simp] theorem dropTurn_fmtv (s : State) : (dropTurn s).fmtv = s.fmtv := rfl
@[simp] theorem dropTurn_err (s : State) : (dropTurn s).err = s.err := rfl
@[simp] theorem dropTurn_mask (s : State) : (dropTurn s).mask = s.mask := rfl
@[simp] theorem dropTurn_fmtraw (s : State) : (dropTurn s).fmtraw = s.fmtraw := rfl
@[simp] theorem dropTurn_fmtinfo (s : State) : (dropTurn s).fmtinfo = s.fmtinfo := rfl
@[simp] theorem dropTurn_count (s : State) : (dropTurn s).count = s.count := rfl
@[simp] theorem dropTurn_prow (s : State) : (dropTurn s).prow = s.prow := rfl
@[simp] theorem dropTurn_pcol (s : State) : (dropTurn s).pcol = s.pcol := rfl
@[simp] theorem dropTurn_pres (s : State) : (dropTurn s).pres = s.pres := rfl
@[simp] theorem dropTurn_seq (s : State) : (dropTurn s).seq = s.seq := rfl
@[simp] theorem dropTurn_cmdl (s : State) : (dropTurn s).cmdl = s.cmdl := rfl
@[simp] theorem dropTurn_rawsh (s : State) : (dropTurn s).rawsh = s.rawsh := rfl
@[simp] theorem dropTurn_bs (s : State) : (dropTurn s).bs = s.bs := rfl
@[simp] theorem dropTurn_hostq (s : State) : (dropTurn s).hostq = s.hostq := rfl
@[simp] theorem dropTurn_turns (s : State) : (dropTurn s).turns = s.turns.tail := rfl
@[simp] theorem dropTurn_ret (s : State) : (dropTurn s).ret = s.ret := rfl
@[simp] theorem dropTurn_side (s : State) : side (dropTurn s) = side s := rfl

/-! ## withSeq -/

@[simp] theorem withSeq_grid (q : SeqState) (s : State) : (withSeq q s).grid = s.grid := rfl
@[simp] theorem withSeq_size (q : SeqState) (s : State) : (withSeq q s).size = s.size := rfl
@[simp] theorem withSeq_busy (q : SeqState) (s : State) : (withSeq q s).busy = s.busy := rfl
@[simp] theorem withSeq_done (q : SeqState) (s : State) : (withSeq q s).done = s.done := rfl
@[simp] theorem withSeq_fmtv (q : SeqState) (s : State) : (withSeq q s).fmtv = s.fmtv := rfl
@[simp] theorem withSeq_err (q : SeqState) (s : State) : (withSeq q s).err = s.err := rfl
@[simp] theorem withSeq_mask (q : SeqState) (s : State) : (withSeq q s).mask = s.mask := rfl
@[simp] theorem withSeq_fmtraw (q : SeqState) (s : State) : (withSeq q s).fmtraw = s.fmtraw := rfl
@[simp] theorem withSeq_fmtinfo (q : SeqState) (s : State) : (withSeq q s).fmtinfo = s.fmtinfo := rfl
@[simp] theorem withSeq_count (q : SeqState) (s : State) : (withSeq q s).count = s.count := rfl
@[simp] theorem withSeq_prow (q : SeqState) (s : State) : (withSeq q s).prow = s.prow := rfl
@[simp] theorem withSeq_pcol (q : SeqState) (s : State) : (withSeq q s).pcol = s.pcol := rfl
@[simp] theorem withSeq_pres (q : SeqState) (s : State) : (withSeq q s).pres = s.pres := rfl
@[simp] theorem withSeq_seq (q : SeqState) (s : State) : (withSeq q s).seq = q := rfl
@[simp] theorem withSeq_cmdl (q : SeqState) (s : State) : (withSeq q s).cmdl = s.cmdl := rfl
@[simp] theorem withSeq_rawsh (q : SeqState) (s : State) : (withSeq q s).rawsh = s.rawsh := rfl
@[simp] theorem withSeq_bs (q : SeqState) (s : State) : (withSeq q s).bs = s.bs := rfl
@[simp] theorem withSeq_hostq (q : SeqState) (s : State) : (withSeq q s).hostq = s.hostq := rfl
@[simp] theorem withSeq_turns (q : SeqState) (s : State) : (withSeq q s).turns = s.turns := rfl
@[simp] theorem withSeq_ret (q : SeqState) (s : State) : (withSeq q s).ret = s.ret := rfl
@[simp] theorem withSeq_side (q : SeqState) (s : State) : side (withSeq q s) = side s := rfl

/-! ## withSize -/

@[simp] theorem withSize_grid (v : Coord) (s : State) : (withSize v s).grid = s.grid := rfl
@[simp] theorem withSize_size (v : Coord) (s : State) : (withSize v s).size = v := rfl
@[simp] theorem withSize_busy (v : Coord) (s : State) : (withSize v s).busy = s.busy := rfl
@[simp] theorem withSize_done (v : Coord) (s : State) : (withSize v s).done = s.done := rfl
@[simp] theorem withSize_fmtv (v : Coord) (s : State) : (withSize v s).fmtv = s.fmtv := rfl
@[simp] theorem withSize_err (v : Coord) (s : State) : (withSize v s).err = s.err := rfl
@[simp] theorem withSize_mask (v : Coord) (s : State) : (withSize v s).mask = s.mask := rfl
@[simp] theorem withSize_fmtraw (v : Coord) (s : State) : (withSize v s).fmtraw = s.fmtraw := rfl
@[simp] theorem withSize_fmtinfo (v : Coord) (s : State) : (withSize v s).fmtinfo = s.fmtinfo := rfl
@[simp] theorem withSize_count (v : Coord) (s : State) : (withSize v s).count = s.count := rfl
@[simp] theorem withSize_prow (v : Coord) (s : State) : (withSize v s).prow = s.prow := rfl
@[simp] theorem withSize_pcol (v : Coord) (s : State) : (withSize v s).pcol = s.pcol := rfl
@[simp] theorem withSize_pres (v : Coord) (s : State) : (withSize v s).pres = s.pres := rfl
@[simp] theorem withSize_seq (v : Coord) (s : State) : (withSize v s).seq = s.seq := rfl
@[simp] theorem withSize_cmdl (v : Coord) (s : State) : (withSize v s).cmdl = s.cmdl := rfl
@[simp] theorem withSize_rawsh (v : Coord) (s : State) : (withSize v s).rawsh = s.rawsh := rfl
@[simp] theorem withSize_bs (v : Coord) (s : State) : (withSize v s).bs = s.bs := rfl
@[simp] theorem withSize_hostq (v : Coord) (s : State) : (withSize v s).hostq = s.hostq := rfl
@[simp] theorem withSize_turns (v : Coord) (s : State) : (withSize v s).turns = s.turns := rfl
@[simp] theorem withSize_ret (v : Coord) (s : State) : (withSize v s).ret = s.ret := rfl
@[simp] theorem withSize_side (v : Coord) (s : State) : side (withSize v s) = v.toNat := rfl

/-! ## withMask -/

@[simp] theorem withMask_grid (v : MaskId) (s : State) : (withMask v s).grid = s.grid := rfl
@[simp] theorem withMask_size (v : MaskId) (s : State) : (withMask v s).size = s.size := rfl
@[simp] theorem withMask_busy (v : MaskId) (s : State) : (withMask v s).busy = s.busy := rfl
@[simp] theorem withMask_done (v : MaskId) (s : State) : (withMask v s).done = s.done := rfl
@[simp] theorem withMask_fmtv (v : MaskId) (s : State) : (withMask v s).fmtv = s.fmtv := rfl
@[simp] theorem withMask_err (v : MaskId) (s : State) : (withMask v s).err = s.err := rfl
@[simp] theorem withMask_mask (v : MaskId) (s : State) : (withMask v s).mask = v := rfl
@[simp] theorem withMask_fmtraw (v : MaskId) (s : State) : (withMask v s).fmtraw = s.fmtraw := rfl
@[simp] theorem withMask_fmtinfo (v : MaskId) (s : State) : (withMask v s).fmtinfo = s.fmtinfo := rfl
@[simp] theorem withMask_count (v : MaskId) (s : State) : (withMask v s).count = s.count := rfl
@[simp] theorem withMask_prow (v : MaskId) (s : State) : (withMask v s).prow = s.prow := rfl
@[simp] theorem withMask_pcol (v : MaskId) (s : State) : (withMask v s).pcol = s.pcol := rfl
@[simp] theorem withMask_pres (v : MaskId) (s : State) : (withMask v s).pres = s.pres := rfl
@[simp] theorem withMask_seq (v : MaskId) (s : State) : (withMask v s).seq = s.seq := rfl
@[simp] theorem withMask_cmdl (v : MaskId) (s : State) : (withMask v s).cmdl = s.cmdl := rfl
@[simp] theorem withMask_rawsh (v : MaskId) (s : State) : (withMask v s).rawsh = s.rawsh := rfl
@[simp] theorem withMask_bs (v : MaskId) (s : State) : (withMask v s).bs = s.bs := rfl
@[simp] theorem withMask_hostq (v : MaskId) (s : State) : (withMask v s).hostq = s.hostq := rfl
@[simp] theorem withMask_turns (v : MaskId) (s : State) : (withMask v s).turns = s.turns := rfl
@[simp] theorem withMask_ret (v : MaskId) (s : State) : (withMask v s).ret = s.ret := rfl
@[simp] theorem withMask_side (v : MaskId) (s : State) : side (withMask v s) = side s := rfl

/-! ## withProw -/

@[simp] theorem withProw_grid (v : Coord) (s : State) : (withProw v s).grid = s.grid := rfl
@[simp] theorem withProw_size (v : Coord) (s : State) : (withProw v s).size = s.size := rfl
@[simp] theorem withProw_busy (v : Coord) (s : State) : (withProw v s).busy = s.busy := rfl
@[simp] theorem withProw_done (v : Coord) (s : State) : (withProw v s).done = s.done := rfl
@[simp] theorem withProw_fmtv (v : Coord) (s : State) : (withProw v s).fmtv = s.fmtv := rfl
@[simp] theorem withProw_err (v : Coord) (s : State) : (withProw v s).err = s.err := rfl
@[simp] theorem withProw_mask (v : Coord) (s : State) : (withProw v s).mask = s.mask := rfl
@[simp] theorem withProw_fmtraw (v : Coord) (s : State) : (withProw v s).fmtraw = s.fmtraw := rfl
@[simp] theorem withProw_fmtinfo (v : Coord) (s : State) : (withProw v s).fmtinfo = s.fmtinfo := rfl
@[simp] theorem withProw_count (v : Coord) (s : State) : (withProw v s).count = s.count := rfl
@[simp] theorem withProw_prow (v : Coord) (s : State) : (withProw v s).prow = v := rfl
@[simp] theorem withProw_pcol (v : Coord) (s : State) : (withProw v s).pcol = s.pcol := rfl
@[simp] theorem withProw_pres (v : Coord) (s : State) : (withProw v s).pres = s.pres := rfl
@[simp] theorem withProw_seq (v : Coord) (s : State) : (withProw v s).seq = s.seq := rfl
@[simp] theorem withProw_cmdl (v : Coord) (s : State) : (withProw v s).cmdl = s.cmdl := rfl
@[simp] theorem withProw_rawsh (v : Coord) (s : State) : (withProw v s).rawsh = s.rawsh := rfl
@[simp] theorem withProw_bs (v : Coord) (s : State) : (withProw v s).bs = s.bs := rfl
@[simp] theorem withProw_hostq (v : Coord) (s : State) : (withProw v s).hostq = s.hostq := rfl
@[simp] theorem withProw_turns (v : Coord) (s : State) : (withProw v s).turns = s.turns := rfl
@[simp] theorem withProw_ret (v : Coord) (s : State) : (withProw v s).ret = s.ret := rfl
@[simp] theorem withProw_side (v : Coord) (s : State) : side (withProw v s) = side s := rfl

/-! ## withPcol -/

@[simp] theorem withPcol_grid (v : Coord) (s : State) : (withPcol v s).grid = s.grid := rfl
@[simp] theorem withPcol_size (v : Coord) (s : State) : (withPcol v s).size = s.size := rfl
@[simp] theorem withPcol_busy (v : Coord) (s : State) : (withPcol v s).busy = s.busy := rfl
@[simp] theorem withPcol_done (v : Coord) (s : State) : (withPcol v s).done = s.done := rfl
@[simp] theorem withPcol_fmtv (v : Coord) (s : State) : (withPcol v s).fmtv = s.fmtv := rfl
@[simp] theorem withPcol_err (v : Coord) (s : State) : (withPcol v s).err = s.err := rfl
@[simp] theorem withPcol_mask (v : Coord) (s : State) : (withPcol v s).mask = s.mask := rfl
@[simp] theorem withPcol_fmtraw (v : Coord) (s : State) : (withPcol v s).fmtraw = s.fmtraw := rfl
@[simp] theorem withPcol_fmtinfo (v : Coord) (s : State) : (withPcol v s).fmtinfo = s.fmtinfo := rfl
@[simp] theorem withPcol_count (v : Coord) (s : State) : (withPcol v s).count = s.count := rfl
@[simp] theorem withPcol_prow (v : Coord) (s : State) : (withPcol v s).prow = s.prow := rfl
@[simp] theorem withPcol_pcol (v : Coord) (s : State) : (withPcol v s).pcol = v := rfl
@[simp] theorem withPcol_pres (v : Coord) (s : State) : (withPcol v s).pres = s.pres := rfl
@[simp] theorem withPcol_seq (v : Coord) (s : State) : (withPcol v s).seq = s.seq := rfl
@[simp] theorem withPcol_cmdl (v : Coord) (s : State) : (withPcol v s).cmdl = s.cmdl := rfl
@[simp] theorem withPcol_rawsh (v : Coord) (s : State) : (withPcol v s).rawsh = s.rawsh := rfl
@[simp] theorem withPcol_bs (v : Coord) (s : State) : (withPcol v s).bs = s.bs := rfl
@[simp] theorem withPcol_hostq (v : Coord) (s : State) : (withPcol v s).hostq = s.hostq := rfl
@[simp] theorem withPcol_turns (v : Coord) (s : State) : (withPcol v s).turns = s.turns := rfl
@[simp] theorem withPcol_ret (v : Coord) (s : State) : (withPcol v s).ret = s.ret := rfl
@[simp] theorem withPcol_side (v : Coord) (s : State) : side (withPcol v s) = side s := rfl

/-! ## withPres -/

@[simp] theorem withPres_grid (v : BitVec 4) (s : State) : (withPres v s).grid = s.grid := rfl
@[simp] theorem withPres_size (v : BitVec 4) (s : State) : (withPres v s).size = s.size := rfl
@[simp] theorem withPres_busy (v : BitVec 4) (s : State) : (withPres v s).busy = s.busy := rfl
@[simp] theorem withPres_done (v : BitVec 4) (s : State) : (withPres v s).done = s.done := rfl
@[simp] theorem withPres_fmtv (v : BitVec 4) (s : State) : (withPres v s).fmtv = s.fmtv := rfl
@[simp] theorem withPres_err (v : BitVec 4) (s : State) : (withPres v s).err = s.err := rfl
@[simp] theorem withPres_mask (v : BitVec 4) (s : State) : (withPres v s).mask = s.mask := rfl
@[simp] theorem withPres_fmtraw (v : BitVec 4) (s : State) : (withPres v s).fmtraw = s.fmtraw := rfl
@[simp] theorem withPres_fmtinfo (v : BitVec 4) (s : State) : (withPres v s).fmtinfo = s.fmtinfo := rfl
@[simp] theorem withPres_count (v : BitVec 4) (s : State) : (withPres v s).count = s.count := rfl
@[simp] theorem withPres_prow (v : BitVec 4) (s : State) : (withPres v s).prow = s.prow := rfl
@[simp] theorem withPres_pcol (v : BitVec 4) (s : State) : (withPres v s).pcol = s.pcol := rfl
@[simp] theorem withPres_pres (v : BitVec 4) (s : State) : (withPres v s).pres = v := rfl
@[simp] theorem withPres_seq (v : BitVec 4) (s : State) : (withPres v s).seq = s.seq := rfl
@[simp] theorem withPres_cmdl (v : BitVec 4) (s : State) : (withPres v s).cmdl = s.cmdl := rfl
@[simp] theorem withPres_rawsh (v : BitVec 4) (s : State) : (withPres v s).rawsh = s.rawsh := rfl
@[simp] theorem withPres_bs (v : BitVec 4) (s : State) : (withPres v s).bs = s.bs := rfl
@[simp] theorem withPres_hostq (v : BitVec 4) (s : State) : (withPres v s).hostq = s.hostq := rfl
@[simp] theorem withPres_turns (v : BitVec 4) (s : State) : (withPres v s).turns = s.turns := rfl
@[simp] theorem withPres_ret (v : BitVec 4) (s : State) : (withPres v s).ret = s.ret := rfl
@[simp] theorem withPres_side (v : BitVec 4) (s : State) : side (withPres v s) = side s := rfl

/-! ## withGrid -/

@[simp] theorem withGrid_grid (g : Memory) (s : State) : (withGrid g s).grid = g := rfl
@[simp] theorem withGrid_size (g : Memory) (s : State) : (withGrid g s).size = s.size := rfl
@[simp] theorem withGrid_busy (g : Memory) (s : State) : (withGrid g s).busy = s.busy := rfl
@[simp] theorem withGrid_done (g : Memory) (s : State) : (withGrid g s).done = s.done := rfl
@[simp] theorem withGrid_fmtv (g : Memory) (s : State) : (withGrid g s).fmtv = s.fmtv := rfl
@[simp] theorem withGrid_err (g : Memory) (s : State) : (withGrid g s).err = s.err := rfl
@[simp] theorem withGrid_mask (g : Memory) (s : State) : (withGrid g s).mask = s.mask := rfl
@[simp] theorem withGrid_fmtraw (g : Memory) (s : State) : (withGrid g s).fmtraw = s.fmtraw := rfl
@[simp] theorem withGrid_fmtinfo (g : Memory) (s : State) : (withGrid g s).fmtinfo = s.fmtinfo := rfl
@[simp] theorem withGrid_count (g : Memory) (s : State) : (withGrid g s).count = s.count := rfl
@[simp] theorem withGrid_prow (g : Memory) (s : State) : (withGrid g s).prow = s.prow := rfl
@[simp] theorem withGrid_pcol (g : Memory) (s : State) : (withGrid g s).pcol = s.pcol := rfl
@[simp] theorem withGrid_pres (g : Memory) (s : State) : (withGrid g s).pres = s.pres := rfl
@[simp] theorem withGrid_seq (g : Memory) (s : State) : (withGrid g s).seq = s.seq := rfl
@[simp] theorem withGrid_cmdl (g : Memory) (s : State) : (withGrid g s).cmdl = s.cmdl := rfl
@[simp] theorem withGrid_rawsh (g : Memory) (s : State) : (withGrid g s).rawsh = s.rawsh := rfl
@[simp] theorem withGrid_bs (g : Memory) (s : State) : (withGrid g s).bs = s.bs := rfl
@[simp] theorem withGrid_hostq (g : Memory) (s : State) : (withGrid g s).hostq = s.hostq := rfl
@[simp] theorem withGrid_turns (g : Memory) (s : State) : (withGrid g s).turns = s.turns := rfl
@[simp] theorem withGrid_ret (g : Memory) (s : State) : (withGrid g s).ret = s.ret := rfl
@[simp] theorem withGrid_side (g : Memory) (s : State) : side (withGrid g s) = side s := rfl

/-! ## withRawBit -/

@[simp] theorem withRawBit_grid (i : Nat) (b : Bool) (s : State) : (withRawBit i b s).grid = s.grid := rfl
@[simp] theorem withRawBit_size (i : Nat) (b : Bool) (s : State) : (withRawBit i b s).size = s.size := rfl
@[simp] theorem withRawBit_busy (i : Nat) (b : Bool) (s : State) : (withRawBit i b s).busy = s.busy := rfl
@[simp] theorem withRawBit_done (i : Nat) (b : Bool) (s : State) : (withRawBit i b s).done = s.done := rfl
@[simp] theorem withRawBit_fmtv (i : Nat) (b : Bool) (s : State) : (withRawBit i b s).fmtv = s.fmtv := rfl
@[simp] theorem withRawBit_err (i : Nat) (b : Bool) (s : State) : (withRawBit i b s).err = s.err := rfl
@[simp] theorem withRawBit_mask (i : Nat) (b : Bool) (s : State) : (withRawBit i b s).mask = s.mask := rfl
@[simp] theorem withRawBit_fmtraw (i : Nat) (b : Bool) (s : State) : (withRawBit i b s).fmtraw = s.fmtraw := rfl
@[simp] theorem withRawBit_fmtinfo (i : Nat) (b : Bool) (s : State) : (withRawBit i b s).fmtinfo = s.fmtinfo := rfl
@[simp] theorem withRawBit_count (i : Nat) (b : Bool) (s : State) : (withRawBit i b s).count = s.count := rfl
@[simp] theorem withRawBit_prow (i : Nat) (b : Bool) (s : State) : (withRawBit i b s).prow = s.prow := rfl
@[simp] theorem withRawBit_pcol (i : Nat) (b : Bool) (s : State) : (withRawBit i b s).pcol = s.pcol := rfl
@[simp] theorem withRawBit_pres (i : Nat) (b : Bool) (s : State) : (withRawBit i b s).pres = s.pres := rfl
@[simp] theorem withRawBit_seq (i : Nat) (b : Bool) (s : State) : (withRawBit i b s).seq = s.seq := rfl
@[simp] theorem withRawBit_cmdl (i : Nat) (b : Bool) (s : State) : (withRawBit i b s).cmdl = s.cmdl := rfl
@[simp] theorem withRawBit_rawsh (i : Nat) (b : Bool) (s : State) : (withRawBit i b s).rawsh = putBit s.rawsh i b := rfl
@[simp] theorem withRawBit_bs (i : Nat) (b : Bool) (s : State) : (withRawBit i b s).bs = s.bs := rfl
@[simp] theorem withRawBit_hostq (i : Nat) (b : Bool) (s : State) : (withRawBit i b s).hostq = s.hostq := rfl
@[simp] theorem withRawBit_turns (i : Nat) (b : Bool) (s : State) : (withRawBit i b s).turns = s.turns := rfl
@[simp] theorem withRawBit_ret (i : Nat) (b : Bool) (s : State) : (withRawBit i b s).ret = s.ret := rfl
@[simp] theorem withRawBit_side (i : Nat) (b : Bool) (s : State) : side (withRawBit i b s) = side s := rfl

/-! ## publishFormat -/

@[simp] theorem publishFormat_grid (raw info : FormatWord) (m : MaskId) (s : State) : (publishFormat raw info m s).grid = s.grid := rfl
@[simp] theorem publishFormat_size (raw info : FormatWord) (m : MaskId) (s : State) : (publishFormat raw info m s).size = s.size := rfl
@[simp] theorem publishFormat_busy (raw info : FormatWord) (m : MaskId) (s : State) : (publishFormat raw info m s).busy = s.busy := rfl
@[simp] theorem publishFormat_done (raw info : FormatWord) (m : MaskId) (s : State) : (publishFormat raw info m s).done = s.done := rfl
@[simp] theorem publishFormat_fmtv (raw info : FormatWord) (m : MaskId) (s : State) : (publishFormat raw info m s).fmtv = true := rfl
@[simp] theorem publishFormat_err (raw info : FormatWord) (m : MaskId) (s : State) : (publishFormat raw info m s).err = s.err := rfl
@[simp] theorem publishFormat_mask (raw info : FormatWord) (m : MaskId) (s : State) : (publishFormat raw info m s).mask = m := rfl
@[simp] theorem publishFormat_fmtraw (raw info : FormatWord) (m : MaskId) (s : State) : (publishFormat raw info m s).fmtraw = raw := rfl
@[simp] theorem publishFormat_fmtinfo (raw info : FormatWord) (m : MaskId) (s : State) : (publishFormat raw info m s).fmtinfo = info := rfl
@[simp] theorem publishFormat_count (raw info : FormatWord) (m : MaskId) (s : State) : (publishFormat raw info m s).count = s.count := rfl
@[simp] theorem publishFormat_prow (raw info : FormatWord) (m : MaskId) (s : State) : (publishFormat raw info m s).prow = s.prow := rfl
@[simp] theorem publishFormat_pcol (raw info : FormatWord) (m : MaskId) (s : State) : (publishFormat raw info m s).pcol = s.pcol := rfl
@[simp] theorem publishFormat_pres (raw info : FormatWord) (m : MaskId) (s : State) : (publishFormat raw info m s).pres = s.pres := rfl
@[simp] theorem publishFormat_seq (raw info : FormatWord) (m : MaskId) (s : State) : (publishFormat raw info m s).seq = s.seq := rfl
@[simp] theorem publishFormat_cmdl (raw info : FormatWord) (m : MaskId) (s : State) : (publishFormat raw info m s).cmdl = s.cmdl := rfl
@[simp] theorem publishFormat_rawsh (raw info : FormatWord) (m : MaskId) (s : State) : (publishFormat raw info m s).rawsh = s.rawsh := rfl
@[simp] theorem publishFormat_bs (raw info : FormatWord) (m : MaskId) (s : State) : (publishFormat raw info m s).bs = s.bs := rfl
@[simp] theorem publishFormat_hostq (raw info : FormatWord) (m : MaskId) (s : State) : (publishFormat raw info m s).hostq = s.hostq := rfl
@[simp] theorem publishFormat_turns (raw info : FormatWord) (m : MaskId) (s : State) : (publishFormat raw info m s).turns = s.turns := rfl
@[simp] theorem publishFormat_ret (raw info : FormatWord) (m : MaskId) (s : State) : (publishFormat raw info m s).ret = s.ret := rfl
@[simp] theorem publishFormat_side (raw info : FormatWord) (m : MaskId) (s : State) : side (publishFormat raw info m s) = side s := rfl

/-! ## beginFormat -/

@[simp] theorem beginFormat_grid (s : State) : (beginFormat s).grid = s.grid := rfl
@[simp] theorem beginFormat_size (s : State) : (beginFormat s).size = s.size := rfl
@[simp] theorem beginFormat_busy (s : State) : (beginFormat s).busy = s.busy := rfl
@[simp] theorem beginFormat_done (s : State) : (beginFormat s).done = s.done := rfl
@[simp] theorem beginFormat_fmtv (s : State) : (beginFormat s).fmtv = false := rfl
@[simp] theorem beginFormat_err (s : State) : (beginFormat s).err = s.err := rfl
@[simp] theorem beginFormat_mask (s : State) : (beginFormat s).mask = s.mask := rfl
@[simp] theorem beginFormat_fmtraw (s : State) : (beginFormat s).fmtraw = s.fmtraw := rfl
@[simp] theorem beginFormat_fmtinfo (s : State) : (beginFormat s).fmtinfo = s.fmtinfo := rfl
@[simp] theorem beginFormat_count (s : State) : (beginFormat s).count = s.count := rfl
@[simp] theorem beginFormat_prow (s : State) : (beginFormat s).prow = s.prow := rfl
@[simp] theorem beginFormat_pcol (s : State) : (beginFormat s).pcol = s.pcol := rfl
@[simp] theorem beginFormat_pres (s : State) : (beginFormat s).pres = s.pres := rfl
@[simp] theorem beginFormat_seq (s : State) : (beginFormat s).seq = .fmt 0 := rfl
@[simp] theorem beginFormat_cmdl (s : State) : (beginFormat s).cmdl = s.cmdl := rfl
@[simp] theorem beginFormat_rawsh (s : State) : (beginFormat s).rawsh = s.rawsh := rfl
@[simp] theorem beginFormat_bs (s : State) : (beginFormat s).bs = s.bs := rfl
@[simp] theorem beginFormat_hostq (s : State) : (beginFormat s).hostq = s.hostq := rfl
@[simp] theorem beginFormat_turns (s : State) : (beginFormat s).turns = s.turns := rfl
@[simp] theorem beginFormat_ret (s : State) : (beginFormat s).ret = s.ret := rfl
@[simp] theorem beginFormat_side (s : State) : side (beginFormat s) = side s := rfl

/-! ## beginScan -/

@[simp] theorem beginScan_grid (s : State) : (beginScan s).grid = s.grid := rfl
@[simp] theorem beginScan_size (s : State) : (beginScan s).size = s.size := rfl
@[simp] theorem beginScan_busy (s : State) : (beginScan s).busy = s.busy := rfl
@[simp] theorem beginScan_done (s : State) : (beginScan s).done = s.done := rfl
@[simp] theorem beginScan_fmtv (s : State) : (beginScan s).fmtv = s.fmtv := rfl
@[simp] theorem beginScan_err (s : State) : (beginScan s).err = s.err := rfl
@[simp] theorem beginScan_mask (s : State) : (beginScan s).mask = s.mask := rfl
@[simp] theorem beginScan_fmtraw (s : State) : (beginScan s).fmtraw = s.fmtraw := rfl
@[simp] theorem beginScan_fmtinfo (s : State) : (beginScan s).fmtinfo = s.fmtinfo := rfl
@[simp] theorem beginScan_count (s : State) : (beginScan s).count = 0#16 := rfl
@[simp] theorem beginScan_prow (s : State) : (beginScan s).prow = s.prow := rfl
@[simp] theorem beginScan_pcol (s : State) : (beginScan s).pcol = s.pcol := rfl
@[simp] theorem beginScan_pres (s : State) : (beginScan s).pres = s.pres := rfl
@[simp] theorem beginScan_seq (s : State) : (beginScan s).seq = .scan 0 := rfl
@[simp] theorem beginScan_cmdl (s : State) : (beginScan s).cmdl = s.cmdl := rfl
@[simp] theorem beginScan_rawsh (s : State) : (beginScan s).rawsh = s.rawsh := rfl
@[simp] theorem beginScan_bs (s : State) : (beginScan s).bs = [] := rfl
@[simp] theorem beginScan_hostq (s : State) : (beginScan s).hostq = s.hostq := rfl
@[simp] theorem beginScan_turns (s : State) : (beginScan s).turns = s.turns := rfl
@[simp] theorem beginScan_ret (s : State) : (beginScan s).ret = s.ret := rfl
@[simp] theorem beginScan_side (s : State) : side (beginScan s) = side s := rfl

/-! ## emitSymbol -/

@[simp] theorem emitSymbol_grid (x : Symbol) (s : State) : (emitSymbol x s).grid = s.grid := rfl
@[simp] theorem emitSymbol_size (x : Symbol) (s : State) : (emitSymbol x s).size = s.size := rfl
@[simp] theorem emitSymbol_busy (x : Symbol) (s : State) : (emitSymbol x s).busy = s.busy := rfl
@[simp] theorem emitSymbol_done (x : Symbol) (s : State) : (emitSymbol x s).done = s.done := rfl
@[simp] theorem emitSymbol_fmtv (x : Symbol) (s : State) : (emitSymbol x s).fmtv = s.fmtv := rfl
@[simp] theorem emitSymbol_err (x : Symbol) (s : State) : (emitSymbol x s).err = s.err := rfl
@[simp] theorem emitSymbol_mask (x : Symbol) (s : State) : (emitSymbol x s).mask = s.mask := rfl
@[simp] theorem emitSymbol_fmtraw (x : Symbol) (s : State) : (emitSymbol x s).fmtraw = s.fmtraw := rfl
@[simp] theorem emitSymbol_fmtinfo (x : Symbol) (s : State) : (emitSymbol x s).fmtinfo = s.fmtinfo := rfl
@[simp] theorem emitSymbol_count (x : Symbol) (s : State) : (emitSymbol x s).count = s.count := rfl
@[simp] theorem emitSymbol_prow (x : Symbol) (s : State) : (emitSymbol x s).prow = s.prow := rfl
@[simp] theorem emitSymbol_pcol (x : Symbol) (s : State) : (emitSymbol x s).pcol = s.pcol := rfl
@[simp] theorem emitSymbol_pres (x : Symbol) (s : State) : (emitSymbol x s).pres = s.pres := rfl
@[simp] theorem emitSymbol_seq (x : Symbol) (s : State) : (emitSymbol x s).seq = s.seq := rfl
@[simp] theorem emitSymbol_cmdl (x : Symbol) (s : State) : (emitSymbol x s).cmdl = s.cmdl := rfl
@[simp] theorem emitSymbol_rawsh (x : Symbol) (s : State) : (emitSymbol x s).rawsh = s.rawsh := rfl
@[simp] theorem emitSymbol_bs (x : Symbol) (s : State) : (emitSymbol x s).bs = s.bs ++ [x] := rfl
@[simp] theorem emitSymbol_hostq (x : Symbol) (s : State) : (emitSymbol x s).hostq = s.hostq := rfl
@[simp] theorem emitSymbol_turns (x : Symbol) (s : State) : (emitSymbol x s).turns = s.turns := rfl
@[simp] theorem emitSymbol_ret (x : Symbol) (s : State) : (emitSymbol x s).ret = .symbol (symbolCode x) := rfl
@[simp] theorem emitSymbol_side (x : Symbol) (s : State) : side (emitSymbol x s) = side s := rfl

/-! ## countBit -/

@[simp] theorem countBit_grid (s : State) : (countBit s).grid = s.grid := rfl
@[simp] theorem countBit_size (s : State) : (countBit s).size = s.size := rfl
@[simp] theorem countBit_busy (s : State) : (countBit s).busy = s.busy := rfl
@[simp] theorem countBit_done (s : State) : (countBit s).done = s.done := rfl
@[simp] theorem countBit_fmtv (s : State) : (countBit s).fmtv = s.fmtv := rfl
@[simp] theorem countBit_err (s : State) : (countBit s).err = s.err := rfl
@[simp] theorem countBit_mask (s : State) : (countBit s).mask = s.mask := rfl
@[simp] theorem countBit_fmtraw (s : State) : (countBit s).fmtraw = s.fmtraw := rfl
@[simp] theorem countBit_fmtinfo (s : State) : (countBit s).fmtinfo = s.fmtinfo := rfl
@[simp] theorem countBit_count (s : State) : (countBit s).count = s.count + 1#16 := rfl
@[simp] theorem countBit_prow (s : State) : (countBit s).prow = s.prow := rfl
@[simp] theorem countBit_pcol (s : State) : (countBit s).pcol = s.pcol := rfl
@[simp] theorem countBit_pres (s : State) : (countBit s).pres = s.pres := rfl
@[simp] theorem countBit_seq (s : State) : (countBit s).seq = s.seq := rfl
@[simp] theorem countBit_cmdl (s : State) : (countBit s).cmdl = s.cmdl := rfl
@[simp] theorem countBit_rawsh (s : State) : (countBit s).rawsh = s.rawsh := rfl
@[simp] theorem countBit_bs (s : State) : (countBit s).bs = s.bs := rfl
@[simp] theorem countBit_hostq (s : State) : (countBit s).hostq = s.hostq := rfl
@[simp] theorem countBit_turns (s : State) : (countBit s).turns = s.turns := rfl
@[simp] theorem countBit_ret (s : State) : (countBit s).ret = s.ret := rfl
@[simp] theorem countBit_side (s : State) : side (countBit s) = side s := rfl

/-! ## resetBlock -/

@[simp] theorem resetBlock_grid (s : State) : (resetBlock s).grid = s.grid := rfl
@[simp] theorem resetBlock_size (s : State) : (resetBlock s).size = 0#8 := rfl
@[simp] theorem resetBlock_busy (s : State) : (resetBlock s).busy = false := rfl
@[simp] theorem resetBlock_done (s : State) : (resetBlock s).done = false := rfl
@[simp] theorem resetBlock_fmtv (s : State) : (resetBlock s).fmtv = false := rfl
@[simp] theorem resetBlock_err (s : State) : (resetBlock s).err = 0#4 := rfl
@[simp] theorem resetBlock_mask (s : State) : (resetBlock s).mask = 0#3 := rfl
@[simp] theorem resetBlock_fmtraw (s : State) : (resetBlock s).fmtraw = 0#15 := rfl
@[simp] theorem resetBlock_fmtinfo (s : State) : (resetBlock s).fmtinfo = 0#15 := rfl
@[simp] theorem resetBlock_count (s : State) : (resetBlock s).count = 0#16 := rfl
@[simp] theorem resetBlock_prow (s : State) : (resetBlock s).prow = 0#8 := rfl
@[simp] theorem resetBlock_pcol (s : State) : (resetBlock s).pcol = 0#8 := rfl
@[simp] theorem resetBlock_pres (s : State) : (resetBlock s).pres = 0#4 := rfl
@[simp] theorem resetBlock_seq (s : State) : (resetBlock s).seq = .idle := rfl
@[simp] theorem resetBlock_cmdl (s : State) : (resetBlock s).cmdl = .fmt := rfl
@[simp] theorem resetBlock_rawsh (s : State) : (resetBlock s).rawsh = 0#15 := rfl
@[simp] theorem resetBlock_bs (s : State) : (resetBlock s).bs = [] := rfl
@[simp] theorem resetBlock_hostq (s : State) : (resetBlock s).hostq = s.hostq := rfl
@[simp] theorem resetBlock_turns (s : State) : (resetBlock s).turns = s.turns := rfl
@[simp] theorem resetBlock_ret (s : State) : (resetBlock s).ret = .nothing := rfl

end Sys2Proof.Machine
end

