-- ==== Sys2Proof/Laws/Memory.lean ====
section
/-! SUPPORT. The grid store: read after write, and the canonical form under every operation. -/

namespace Sys2Proof.Machine

/-- Two cells share a key only if they are the same cell. -/
theorem cellKey_inj {r c r' c' : Nat} (hc : c < 256) (hc' : c' < 256) (h : cellKey r c = cellKey r' c') :
    r = r' ∧ c = c' := by
  unfold cellKey at h
  omega

/-- A key listed by `gridInsert` is found; every other key is found as before. -/
theorem gridFind_gridInsert (g : Memory) (k : Nat) (b : Bool) (j : Nat) :
    gridFind (gridInsert g k b) j = if j = k then some b else gridFind g j := by
  induction g with
  | nil => by_cases h : k = j <;> simp [gridInsert, gridFind, h, eq_comm]
  | cons cell rest ih =>
    obtain ⟨a, x⟩ := cell
    unfold gridInsert
    by_cases hlt : k < a
    · simp only [hlt, if_true, gridFind]
      by_cases hj : k = j
      · simp [hj]
      · have : j ≠ k := fun h => hj h.symm
        simp [hj, this]
    · by_cases heq : k = a
      · subst heq
        by_cases hj : k = j
        · simp [gridFind, hj]
        · have : j ≠ k := fun h => hj h.symm
          simp [gridFind, hj, this]
      · simp only [hlt, heq, if_false, gridFind, ih]
        by_cases hj : a = j
        · subst hj
          simp [Ne.symm heq]
        · simp [hj]

/-- Reading the cell just written gives the module written (20_memory.md R46). -/
@[simp] theorem gridRead_gridWrite_same (g : Memory) (r c : Nat) (b : Bool) :
    gridRead (gridWrite g r c b) r c = b := by
  simp [gridRead, gridWrite, gridFind_gridInsert]

/-- A write leaves every other cell alone (20_memory.md R46). -/
theorem gridRead_gridWrite_other (g : Memory) {r c r' c' : Nat} (b : Bool) (hc : c < 256) (hc' : c' < 256)
    (h : ¬(r' = r ∧ c' = c)) : gridRead (gridWrite g r c b) r' c' = gridRead g r' c' := by
  have : cellKey r' c' ≠ cellKey r c := fun e => h (cellKey_inj hc' hc e)
  simp [gridRead, gridWrite, gridFind_gridInsert, this]

/-- A cell read without having been written gives the free value of the cell (log 2). -/
theorem gridRead_unwritten {g : Memory} {r c : Nat} (h : gridWritten g r c = false) :
    gridRead g r c = Config.unwrittenCell r c := by
  simp only [gridWritten, Option.isSome_eq_false_iff, Option.isNone_iff_eq_none] at h
  simp [gridRead, h]

/-- `keysRise` says that the keys rise strictly. -/
theorem keysRise_iff (g : Memory) : keysRise g = true ↔ g.Pairwise fun p q => p.1 < q.1 := by
  induction g with
  | nil => simp [keysRise]
  | cons p rest ih =>
    cases rest with
    | nil => simp [keysRise]
    | cons q rest =>
      simp only [keysRise, Bool.and_eq_true, decide_eq_true_eq, ih]
      constructor
      · rintro ⟨hpq, hr⟩
        refine List.Pairwise.cons ?_ hr
        intro z hz
        rcases List.mem_cons.1 hz with rfl | hz
        · exact hpq
        · exact lt_trans hpq ((List.pairwise_cons.1 hr).1 z hz)
      · intro h
        exact ⟨(List.pairwise_cons.1 h).1 q (by simp), (List.pairwise_cons.1 h).2⟩

/-- A cell listed after an insertion is the new one or was listed before. -/
theorem mem_gridInsert {g : Memory} {k : Nat} {b : Bool} {p : GridCell} (h : p ∈ gridInsert g k b) :
    p = (k, b) ∨ p ∈ g := by
  induction g with
  | nil => exact .inl (by simpa [gridInsert] using h)
  | cons cell rest ih =>
    obtain ⟨a, x⟩ := cell
    unfold gridInsert at h
    split at h
    · rcases List.mem_cons.1 h with h | h
      · exact .inl h
      · exact .inr h
    · split at h
      · rcases List.mem_cons.1 h with h | h
        · exact .inl h
        · exact .inr (List.mem_cons_of_mem _ h)
      · rcases List.mem_cons.1 h with h | h
        · exact .inr (h ▸ List.mem_cons_self)
        · exact (ih h).imp_right (List.mem_cons_of_mem _)

/-- An insertion keeps the keys rising. -/
theorem keysRise_gridInsert {g : Memory} (k : Nat) (b : Bool) (h : keysRise g = true) :
    keysRise (gridInsert g k b) = true := by
  rw [keysRise_iff] at h ⊢
  induction g with
  | nil => simp [gridInsert]
  | cons cell rest ih =>
    obtain ⟨a, x⟩ := cell
    have hc := List.pairwise_cons.1 h
    unfold gridInsert
    split
    · rename_i hlt
      refine List.Pairwise.cons ?_ h
      intro z hz
      rcases List.mem_cons.1 hz with rfl | hz
      · exact hlt
      · exact lt_trans hlt (hc.1 z hz)
    · split
      · rename_i heq
        subst heq
        exact List.Pairwise.cons hc.1 hc.2
      · rename_i hlt heq
        refine List.Pairwise.cons ?_ (ih hc.2)
        intro z hz
        rcases mem_gridInsert hz with rfl | hz
        · show a < k
          omega
        · exact hc.1 z hz

/-- The empty store is in canonical form, so State.reset's is. -/
theorem reset_grid_wf : Memory.wf State.reset.grid = true := rfl

/-- A write inside the store keeps the canonical form (log 8). -/
theorem gridWrite_wf {g : Memory} {r c : Nat} (b : Bool) (hin : inStore r c = true) (h : Memory.wf g = true) :
    Memory.wf (gridWrite g r c b) = true := by
  simp only [Memory.wf, Bool.and_eq_true] at h ⊢
  refine ⟨keysRise_gridInsert _ _ h.1, ?_⟩
  have hb := Config.NMAX_bounds.2.1
  have hrc := (inStore_iff r c).1 hin
  simp only [keysInStore, List.all_eq_true] at h ⊢
  intro p hp
  rcases mem_gridInsert hp with rfl | hp
  · have h1 : cellKey r c / 256 = r := by unfold cellKey; omega
    have h2 : cellKey r c % 256 = c := by unfold cellKey; omega
    simp only [h1, h2, hin]
  · exact h.2 p hp

/-- `writeCell` is the only operation that changes the store, and it keeps the canonical form. -/
theorem writeCell_wf {s : State} (r c : Nat) (b : Bool) (h : Memory.wf s.grid = true) :
    Memory.wf (writeCell r c b s).grid = true := by
  unfold writeCell
  split
  · rename_i hin
    simpa using gridWrite_wf b hin h
  · exact h

end Sys2Proof.Machine
end

