-- ==== Sys2Proof/Laws/Ops.lean ====
section
/-! SUPPORT. For each shared operation one lemma that says once everything it can do. -/

namespace Sys2Proof.Machine

/-! ## Reading one module (20_memory.md R44) -/

theorem memRead_eq_ok {s : State} {r c : Nat} {v : Bool} :
    memRead s r c = .ok v ↔ r < side s ∧ c < side s ∧ gridRead s.grid r c = v := by
  unfold memRead
  split
  · rename_i h
    simp [h.1, h.2]
  · rename_i h
    constructor
    · intro h'
      cases h'
    · intro h'
      exact absurd ⟨h'.1, h'.2.1⟩ h

theorem memRead_of_lt {s : State} {r c : Nat} (hr : r < side s) (hc : c < side s) :
    memRead s r c = .ok (gridRead s.grid r c) := memRead_eq_ok.2 ⟨hr, hc, rfl⟩

/-! ## Acceptance and errors (44_control_commands.md R161, 60_exceptions.md R206) -/

theorem raiseError_eq (e : ErrorKind) (s : State) : raiseError e s = .next (reportError e s) := rfl

theorem acceptSized_legal {body : State → Result} {s : State} (h : legalSize (side s) = true) :
    acceptSized body s = body (clearReport s) := by simp [acceptSized, h]

theorem acceptSized_illegal {body : State → Result} {s : State} (h : legalSize (side s) = false) :
    acceptSized body s = .next (reportError .invalidGridShape (clearReport s)) := by
  simp [acceptSized, h, raiseError]

/-- With a legal SIZE, PROBE either reports OutOfBounds or reports the cell (44_control_commands.md R164). -/
theorem probeCell_cases (s : State) :
    ((side s ≤ probeRow s ∨ side s ≤ probeCol s) ∧ probeCell s = .next (reportError .outOfBounds s)) ∨
    (probeRow s < side s ∧ probeCol s < side s ∧
      probeCell s = .next (setDone (withPres
        (probeWord (gridRead s.grid (probeRow s) (probeCol s))
          (isFunctionPattern (side s) (side s) (probeRow s) (probeCol s))
          (shouldInvert s.mask (probeRow s) (probeCol s))) s))) := by
  by_cases h : side s ≤ probeRow s ∨ side s ≤ probeCol s
  · exact .inl ⟨h, by simp [probeCell, h, raiseError]⟩
  · have h' : probeRow s < side s ∧ probeCol s < side s := by omega
    refine .inr ⟨h'.1, h'.2, ?_⟩
    simp only [probeCell, h, if_false, memRead_of_lt h'.1 h'.2]

/-! ## The stream port (43_data_scanner.md R145, R146, R147) -/

/-- What is offered: the bit of a data cell of the walk, or the sentinel at the end. -/
theorem offered_some {s : State} {x : Symbol} (h : offered s = .ok (some x)) :
    (∃ k, s.seq = .scan k ∧ k < visitLength (side s) ∧ isSkipped (side s) (visitAt (side s) k) = false ∧
      (visitAt (side s) k).1 < side s ∧ (visitAt (side s) k).2 < side s ∧
      x = .data (scanBit s.grid s.mask (visitAt (side s) k))) ∨
    (s.seq = .atEnd ∧ x = .sentinel) := by
  unfold offered at h
  split at h
  · cases h
  · cases h
  · rename_i k hk
    split at h
    · rename_i hlt
      simp only at h
      split at h
      · cases h
      · rename_i hs
        split at h
        · rename_i v hv
          obtain ⟨hr, hc, hv⟩ := memRead_eq_ok.1 hv
          refine .inl ⟨k, hk, hlt, by simpa using hs, hr, hc, ?_⟩
          simp only [Except.ok.injEq, Option.some.injEq] at h
          rw [← h, scanBit, hv]
        · cases h
    · cases h
  · rename_i hk
    simp only [Except.ok.injEq, Option.some.injEq] at h
    exact .inr ⟨hk, h.symm⟩

/-- Everything a `POP` can do. -/
theorem popStep_next {s t : State} (h : popStep s = .next t) :
    (offered s = .ok none ∧ t = withRet .nothing s) ∨
    (∃ k, s.seq = .scan k ∧ k < visitLength (side s) ∧ isSkipped (side s) (visitAt (side s) k) = false ∧
      t = withSeq (afterVisit (side s) k)
        (countBit (emitSymbol (.data (scanBit s.grid s.mask (visitAt (side s) k))) s))) ∨
    (s.seq = .atEnd ∧ t = endCommand (emitSymbol .sentinel s)) := by
  unfold popStep at h
  split at h
  · rename_i x hx
    simp only [Host.Outcome.next.injEq] at h
    rcases offered_some hx with ⟨k, hk, hlt, hs, -, -, rfl⟩ | ⟨hk, rfl⟩
    · exact .inr (.inl ⟨k, hk, hlt, hs, by rw [← h, transfer, hk]⟩)
    · exact .inr (.inr ⟨hk, by rw [← h, transfer, hk]⟩)
  · rename_i hn
    simp only [Host.Outcome.next.injEq] at h
    exact .inl ⟨hn, h.symm⟩
  · cases h

/-! ## The sequencer's steps (40_format_demux.md R87, R88; 43_data_scanner.md R144) -/

theorem scanStep_next {k : Nat} {s t : State} (h : scanStep k s = .next t) :
    k < visitLength (side s) ∧
    ((isSkipped (side s) (visitAt (side s) k) = true ∧ t = withSeq (afterVisit (side s) k) s) ∨
     (isSkipped (side s) (visitAt (side s) k) = false ∧ t = s)) := by
  unfold scanStep at h
  split at h
  · rename_i hlt
    refine ⟨hlt, ?_⟩
    split at h <;> simp only [Host.Outcome.next.injEq] at h
    · rename_i hs
      exact .inl ⟨hs, h.symm⟩
    · rename_i hs
      exact .inr ⟨by simpa using hs, h.symm⟩
  · cases h

theorem completeFormat_next {s t : State} (h : completeFormat s = .next t) :
    (s.cmdl = .fmt ∧ t = endCommand (publishRead s)) ∨ (s.cmdl = .run ∧ t = beginScan (publishRead s)) := by
  unfold completeFormat at h
  split at h <;> simp_all

/-- Everything a collection step can do. -/
theorem formatStep_next {i : Fin 15} {s t : State} (h : formatStep i s = .next t) :
    formatRow (side s) i.val < side s ∧
    ((∃ hi : i.val + 1 < 15,
        t = withSeq (.fmt ⟨i.val + 1, hi⟩) (withRawBit i.val (gridRead s.grid (formatRow (side s) i.val) formatCol) s)) ∨
     (i.val = 14 ∧ s.cmdl = .fmt ∧
        t = endCommand (publishRead (withRawBit 14 (gridRead s.grid (formatRow (side s) 14) formatCol) s))) ∨
     (i.val = 14 ∧ s.cmdl = .run ∧
        t = beginScan (publishRead (withRawBit 14 (gridRead s.grid (formatRow (side s) 14) formatCol) s)))) := by
  unfold formatStep at h
  split at h
  · cases h
  · rename_i v hv
    obtain ⟨hr, -, rfl⟩ := memRead_eq_ok.1 hv
    refine ⟨hr, ?_⟩
    simp only at h
    split at h
    · rename_i hi
      simp only [Host.Outcome.next.injEq] at h
      exact .inl ⟨hi, h.symm⟩
    · have h14 : i.val = 14 := by have := i.isLt; omega
      rw [h14] at h
      rcases completeFormat_next h with ⟨hc, ht⟩ | ⟨hc, ht⟩
      · exact .inr (.inl ⟨h14, by simpa using hc, ht⟩)
      · exact .inr (.inr ⟨h14, by simpa using hc, ht⟩)

/-! ## The commands at acceptance -/

/-- Everything the acceptance of a command can do (44_control_commands.md R161, 60_exceptions.md R205). -/
theorem exec_next {i : Instr} {s t : State} (h : exec i s = .next t) :
    (i = .nop ∧ t = s) ∨
    (i ≠ .nop ∧ legalSize (side s) = false ∧ t = reportError .invalidGridShape (clearReport s)) ∨
    (i = .fmt ∧ legalSize (side s) = true ∧ t = beginFormat (latchCommand .fmt (clearReport s))) ∨
    (i = .scan ∧ legalSize (side s) = true ∧ t = beginScan (latchCommand .scan (clearReport s))) ∨
    (i = .run ∧ legalSize (side s) = true ∧ t = beginFormat (latchCommand .run (clearReport s))) ∨
    (i = .probe ∧ legalSize (side s) = true ∧ (side s ≤ probeRow s ∨ side s ≤ probeCol s) ∧
      t = reportError .outOfBounds (clearReport s)) ∨
    (i = .probe ∧ legalSize (side s) = true ∧ probeRow s < side s ∧ probeCol s < side s ∧
      t = setDone (withPres
        (probeWord (gridRead s.grid (probeRow s) (probeCol s))
          (isFunctionPattern (side s) (side s) (probeRow s) (probeCol s))
          (shouldInvert s.mask (probeRow s) (probeCol s))) (clearReport s))) := by
  cases hl : legalSize (side s)
  · cases i
    case nop => simp only [exec, execNop, Host.Outcome.next.injEq] at h; exact .inl ⟨rfl, h.symm⟩
    all_goals
      simp only [exec, execFmt, execScan, execRun, execProbe, acceptSized_illegal hl, Host.Outcome.next.injEq] at h
      exact .inr (.inl ⟨by simp, rfl, h.symm⟩)
  · cases i
    case nop => simp only [exec, execNop, Host.Outcome.next.injEq] at h; exact .inl ⟨rfl, h.symm⟩
    case probe =>
      simp only [exec, execProbe, acceptSized_legal hl] at h
      rcases probeCell_cases (clearReport s) with ⟨hb, he⟩ | ⟨hr, hc, he⟩ <;>
        rw [he, Host.Outcome.next.injEq] at h
      · exact .inr (.inr (.inr (.inr (.inr (.inl ⟨rfl, rfl, hb, h.symm⟩)))))
      · exact .inr (.inr (.inr (.inr (.inr (.inr ⟨rfl, rfl, hr, hc, h.symm⟩)))))
    all_goals
      simp only [exec, execFmt, execScan, execRun, acceptSized_legal hl, Host.Outcome.next.injEq] at h
      simp [h]

/-- Every command is accepted: no acceptance faults or refuses (60_exceptions.md R200). -/
theorem exec_completes (i : Instr) (s : State) : ∃ t, exec i s = .next t := by
  cases hl : legalSize (side s)
  · cases i <;> simp [exec, execNop, execFmt, execScan, execRun, execProbe, acceptSized_illegal hl]
  · cases i
    case probe =>
      simp only [exec, execProbe, acceptSized_legal hl]
      rcases probeCell_cases (clearReport s) with ⟨-, he⟩ | ⟨-, -, he⟩ <;> exact ⟨_, he⟩
    all_goals simp [exec, execNop, execFmt, execScan, execRun, acceptSized_legal hl]

end Sys2Proof.Machine
end

