-- ==== Sys2Proof/Laws/Step.lean ====
section
/-! SUPPORT. What a step can do, said once: an invariant of the machine is proved by going through the moves. -/

namespace Sys2Proof.Machine

/-- One change of the block: of the sequencer, of the host, or of both together (60_exceptions.md R218). -/
inductive Move : State → State → Prop
  /-- Nothing happens: an idle or waiting sequencer, a host without a line, a dropped write. -/
  | stay (s : State) : Move s s
  /-- A collection step that is not the last (40_format_demux.md R87). -/
  | collect {s : State} {i : Fin 15} (hq : s.seq = .fmt i) (hi : i.val + 1 < 15)
      (hr : formatRow (side s) i.val < side s) :
      Move s (withSeq (.fmt ⟨i.val + 1, hi⟩)
        (withRawBit i.val (gridRead s.grid (formatRow (side s) i.val) formatCol) s))
  /-- The completion of FMT (40_format_demux.md R88). -/
  | completeFmt {s : State} (hq : s.seq = .fmt 14) (hc : s.cmdl = .fmt) :
      Move s (endCommand (publishRead (withRawBit 14 (gridRead s.grid (formatRow (side s) 14) formatCol) s)))
  /-- The completion of RUN's format read (44_control_commands.md R162). -/
  | completeRun {s : State} (hq : s.seq = .fmt 14) (hc : s.cmdl = .run) :
      Move s (beginScan (publishRead (withRawBit 14 (gridRead s.grid (formatRow (side s) 14) formatCol) s)))
  /-- A skipped cell (43_data_scanner.md R144). -/
  | skip {s : State} {k : Nat} (hq : s.seq = .scan k) (hk : k < visitLength (side s))
      (hs : isSkipped (side s) (visitAt (side s) k) = true) : Move s (withSeq (afterVisit (side s) k) s)
  /-- A `POP` that returns nothing (43_data_scanner.md R146). -/
  | noSymbol {s : State} (ho : offered s = .ok none) : Move s (withRet .nothing s)
  /-- A data bit crosses the stream port (43_data_scanner.md R145). -/
  | emit {s : State} {k : Nat} (hq : s.seq = .scan k) (hk : k < visitLength (side s))
      (hs : isSkipped (side s) (visitAt (side s) k) = false) :
      Move s (withSeq (afterVisit (side s) k)
        (countBit (emitSymbol (.data (scanBit s.grid s.mask (visitAt (side s) k))) s)))
  /-- The sentinel crosses the stream port (43_data_scanner.md R147). -/
  | finish {s : State} (hq : s.seq = .atEnd) : Move s (endCommand (emitSymbol .sentinel s))
  /-- Reset (70_reset_and_hazards.md R230). -/
  | reset (s : State) : Move s (resetBlock s)
  /-- A register read (20_memory.md R40). -/
  | read (s : State) (n : RegNum) : Move s (withRet (.word (readReg s n)) s)
  /-- A register write to an idle block (10_state.md R14). -/
  | writeReg {s : State} (n : RegNum) (v : Word) (hb : s.busy = false) : Move s (writeReg n v s)
  /-- A grid write to an idle block (20_memory.md R46). -/
  | writeCell {s : State} (r c : Nat) (b : Bool) (hb : s.busy = false) : Move s (writeCell r c b s)
  /-- An illegal word written to an idle block (60_exceptions.md R202). -/
  | illegal {s : State} (hb : s.busy = false) : Move s (reportError .illegalCommand (clearReport s))
  /-- A command accepted by an idle block (44_control_commands.md R161). -/
  | command {s t : State} (i : Instr) (hb : s.busy = false) (he : exec i s = .next t) : Move s t

/-- The two states differ at most in what the model keeps for the host: its lines, its turns and the last
response (logs 4, 5, 6). -/
def SameBlock (s t : State) : Prop :=
  ∃ q ts r, t = { s with hostq := q, turns := ts, ret := r }

theorem SameBlock.refl (s : State) : SameBlock s s := ⟨s.hostq, s.turns, s.ret, rfl⟩

theorem SameBlock.trans {s t u : State} (h1 : SameBlock s t) (h2 : SameBlock t u) : SameBlock s u := by
  obtain ⟨_, _, _, rfl⟩ := h1
  obtain ⟨q, ts, r, rfl⟩ := h2
  exact ⟨q, ts, r, rfl⟩

theorem sameBlock_withHostq (q : List HostLine) (s : State) : SameBlock s (withHostq q s) :=
  ⟨q, s.turns, s.ret, rfl⟩

theorem sameBlock_withRet (r : Response) (s : State) : SameBlock s (withRet r s) :=
  ⟨s.hostq, s.turns, r, rfl⟩

theorem sameBlock_dropTurn (s : State) : SameBlock s (dropTurn s) :=
  ⟨s.hostq, s.turns.tail, s.ret, rfl⟩

/-- A sequencer turn is one move. -/
theorem sequencerTurn_move {s t : State} (h : sequencerTurn s = .next t) : Move s t := by
  unfold sequencerTurn at h
  split at h
  · simp only [Host.Outcome.next.injEq] at h
    exact h ▸ .stay s
  · rename_i i hq
    obtain ⟨hr, ⟨hi, rfl⟩ | ⟨h14, hc, rfl⟩ | ⟨h14, hc, rfl⟩⟩ := formatStep_next h
    · exact .collect hq hi hr
    · exact .completeFmt (by rw [hq]; exact congrArg _ (Fin.ext h14)) hc
    · exact .completeRun (by rw [hq]; exact congrArg _ (Fin.ext h14)) hc
  · rename_i k hq
    obtain ⟨hk, ⟨hs, rfl⟩ | ⟨-, rfl⟩⟩ := scanStep_next h
    · exact .skip hq hk hs
    · exact .stay _
  · simp only [Host.Outcome.next.injEq] at h
    exact h ▸ .stay s

/-- A `POP` is one move. -/
theorem popStep_move {s t : State} (h : popStep s = .next t) : Move s t := by
  rcases popStep_next h with ⟨ho, rfl⟩ | ⟨k, hq, hk, hs, rfl⟩ | ⟨hq, rfl⟩
  · exact .noSymbol ho
  · exact .emit hq hk hs
  · exact .finish hq

/-- A word offered to an idle block is one move. -/
theorem issueCommand_move {w : CommandWord} {s t : State} (hb : s.busy = false) (h : issueCommand w s = .next t) :
    Move s t := by
  unfold issueCommand at h
  split at h
  · exact .command _ hb h
  · simp only [illegalWord, raiseError, Host.Outcome.next.injEq] at h
    exact h ▸ .illegal hb

/-- A register write is one move. -/
theorem hostWrite_move {n : RegNum} {v : Word} {s t : State} (h : hostWrite n v s = .next t) : Move s t := by
  unfold hostWrite at h
  split at h
  · simp only [Host.Outcome.next.injEq] at h
    exact h ▸ .stay s
  · rename_i hb
    have hb : s.busy = false := by simpa using hb
    split at h
    · exact issueCommand_move hb h
    · simp only [Host.Outcome.next.injEq] at h
      exact h ▸ .writeReg n v hb

/-- A grid write is one move. -/
theorem hostGridWrite_move (r c : Coord) (b : Bool) (s : State) : Move s (hostGridWrite r c b s) := by
  unfold hostGridWrite
  split
  · exact .stay s
  · rename_i hb
    exact .writeCell _ _ _ (by simpa using hb)

/-- A host operation is one move, after the response of the one before it is dropped. -/
theorem performOp_move {o : HostOp} {s t : State} (h : performOp o s = .next t) :
    ∃ u, SameBlock s u ∧ Move u t := by
  cases o with
  | wr n v => exact ⟨_, sameBlock_withRet _ _, hostWrite_move h⟩
  | rd n =>
    simp only [performOp, Host.Outcome.next.injEq] at h
    exact ⟨s, .refl s, h ▸ .read s n⟩
  | gw r c b =>
    simp only [performOp, Host.Outcome.next.injEq] at h
    exact ⟨_, sameBlock_withRet _ _, h ▸ hostGridWrite_move r c b _⟩
  | pop => exact ⟨s, .refl s, popStep_move h⟩

/-- A host turn is one move, but for what the model keeps for the host. -/
theorem hostTurn_move {s t : State} (h : hostTurn s = .next t) :
    ∃ u v, SameBlock s u ∧ Move u v ∧ SameBlock v t := by
  unfold hostTurn at h
  split at h
  · simp only [Host.Outcome.next.injEq] at h
    exact ⟨s, s, .refl s, .stay s, h ▸ .refl s⟩
  · obtain ⟨u, hu, hm⟩ := performOp_move h
    exact ⟨u, t, (sameBlock_withHostq _ s).trans hu, hm, .refl t⟩
  · simp only [Host.Outcome.next.injEq] at h
    subst h
    exact ⟨_, _, sameBlock_withHostq _ s, Move.reset _, SameBlock.refl _⟩
  · split at h <;> simp only [Host.Outcome.next.injEq] at h
    · exact ⟨s, t, .refl s, h ▸ .read s _, .refl t⟩
    · exact ⟨s, _, .refl s, .read s _, h ▸ sameBlock_withHostq _ _⟩
  · split at h
    · rename_i v hv
      split at h <;> simp only [Host.Outcome.next.injEq] at h
      · exact ⟨s, v, .refl s, popStep_move hv, h ▸ sameBlock_withHostq _ _⟩
      · exact ⟨s, v, .refl s, popStep_move hv, h ▸ .refl v⟩
    · cases h
    · cases h

/-- Everything a step can do: one move, but for what the model keeps for the host. -/
theorem step_move {s t : State} (h : step s = .next t) : ∃ u v, SameBlock s u ∧ Move u v ∧ SameBlock v t := by
  unfold step takeTurn at h
  split at h
  · exact ⟨_, t, sameBlock_dropTurn s, sequencerTurn_move h, .refl t⟩
  · obtain ⟨u, v, hu, hm, hv⟩ := hostTurn_move h
    exact ⟨u, v, (sameBlock_dropTurn s).trans hu, hm, hv⟩

end Sys2Proof.Machine
end

