-- ==== Sys2Proof/Laws/Cases.lean ====
section
/-! SUPPORT. What the operations of the host port, the walk and the format read can answer, said once each, and that
the invariants do not look at what the model keeps for the host. -/

namespace Sys2Proof.Machine

/-! ## Legal sides -/

theorem legalSize_iff_legalSide (n : Nat) : legalSize n = true ↔ LegalSide n := legalSize_iff n

theorem legalSize_eq_false {n : Nat} (h : ¬ LegalSide n) : legalSize n = false := by
  rw [← legalSize_iff_legalSide] at h
  simpa using h

/-- 60_exceptions.md R203: 21 is legal on every store. -/
theorem legalSide_21 : LegalSide 21 := (legalSize_iff_legalSide 21).1 legalSize_21

/-! ## Invariants and the model's own fields -/

theorem ControlInv.sameBlock {s t : State} (h : SameBlock s t) (hi : ControlInv s) : ControlInv t := by
  obtain ⟨q, ts, r, rfl⟩ := h
  exact ⟨hi.1, hi.2, hi.3, hi.4, hi.5, hi.6, hi.7, hi.8, hi.9⟩

theorem RegisterInv.sameBlock {s t : State} (h : SameBlock s t) (hi : RegisterInv s) : RegisterInv t := by
  obtain ⟨q, ts, r, rfl⟩ := h
  exact ⟨hi.1, hi.2, hi.3, hi.4, hi.5⟩

theorem FormatInv.sameBlock {s t : State} (h : SameBlock s t) (hi : FormatInv s) : FormatInv t := by
  obtain ⟨q, ts, r, rfl⟩ := h
  exact hi

theorem StreamInv.sameBlock {s t : State} (h : SameBlock s t) (hi : StreamInv s) : StreamInv t := by
  obtain ⟨q, ts, r, rfl⟩ := h
  exact ⟨hi.1, hi.2⟩

/-- An idle block that meets the invariant has `SEQ = IDLE` (10_state.md R27). -/
theorem ControlInv.seq_of_idle {s : State} (hi : ControlInv s) (hb : s.busy = false) : s.seq = .idle := by
  by_contra h
  have := hi.busy_iff.2 h
  simp [hb] at this

/-! ## Registers, cells, PRES -/

/-- A register write changes at most one of the four writable registers (10_state.md R14). -/
theorem writeReg_cases (n : RegNum) (v : Word) (s : State) :
    writeReg n v s = s ∨ (∃ x, writeReg n v s = withSize x s) ∨ (∃ x, writeReg n v s = withMask x s) ∨
    (∃ x, writeReg n v s = withProw x s) ∨ (∃ x, writeReg n v s = withPcol x s) := by
  unfold writeReg
  split <;>
    first
    | exact .inl rfl
    | exact .inr (.inl ⟨_, rfl⟩)
    | exact .inr (.inr (.inl ⟨_, rfl⟩))
    | exact .inr (.inr (.inr (.inl ⟨_, rfl⟩)))
    | exact .inr (.inr (.inr (.inr ⟨_, rfl⟩)))

/-- A grid write changes one cell of the store, or nothing outside it (20_memory.md R46, R47). -/
theorem writeCell_cases (r c : Nat) (b : Bool) (s : State) :
    writeCell r c b s = s ∨
    (inStore r c = true ∧ writeCell r c b s = withGrid (gridWrite s.grid r c b) s) := by
  unfold writeCell
  split <;> simp_all

/-- The four bits of PRES (10_state.md R24). -/
theorem probeWord_bits (md func inv : Bool) :
    (probeWord md func inv).getLsbD 0 = md ∧ (probeWord md func inv).getLsbD 1 = func ∧
    (probeWord md func inv).getLsbD 2 = inv ∧ (probeWord md func inv).getLsbD 3 = (md ^^ inv) := by
  revert md func inv
  decide

/-! ## Commands and turns -/

/-- A word offered to an idle block is decoded and run, or reported (44_control_commands.md R161). -/
theorem issueCommand_cases {w : CommandWord} {s t : State} (h : issueCommand w s = .next t) :
    (∃ i, decode w = .ok i ∧ exec i s = .next t) ∨
    ((∃ e, decode w = .error e) ∧ t = reportError .illegalCommand (clearReport s)) := by
  unfold issueCommand at h
  split at h
  · exact .inl ⟨_, by assumption, h⟩
  · simp only [illegalWord, raiseError, Host.Outcome.next.injEq] at h
    exact .inr ⟨⟨_, by assumption⟩, h.symm⟩

/-- A step is the turn of one agent (60_exceptions.md R218). -/
theorem step_cases {s t : State} (h : step s = .next t) :
    (nextAgent s = .sequencer ∧ sequencerTurn (dropTurn s) = .next t) ∨
    (nextAgent s = .host ∧ hostTurn (dropTurn s) = .next t) := by
  unfold step takeTurn at h
  split at h <;> simp_all

/-- Dropping a turn changes nothing when no turn is listed. -/
theorem dropTurn_of_nil {s : State} (h : s.turns = []) : dropTurn s = s := by
  cases s
  simp_all [dropTurn]

/-- A `POP` touches the stream, COUNT and the control state only (43_data_scanner.md R145 to R147). -/
theorem popStep_frame {s t : State} (h : popStep s = .next t) :
    t.grid = s.grid ∧ t.size = s.size ∧ t.prow = s.prow ∧ t.pcol = s.pcol ∧ t.pres = s.pres ∧ t.mask = s.mask ∧
    t.fmtraw = s.fmtraw ∧ t.fmtinfo = s.fmtinfo ∧ t.fmtv = s.fmtv := by
  rcases popStep_next h with ⟨-, rfl⟩ | ⟨k, -, -, -, rfl⟩ | ⟨-, rfl⟩ <;> simp

/-- What a host turn can do: read or drop a write, reset, pop (alone or in a DRAIN), write a cell, write a register,
issue a word. -/
theorem hostTurn_cases {s t : State} (h : hostTurn s = .next t) :
    (∃ q r, t = { s with hostq := q, ret := r }) ∨
    (∃ rest, s.hostq = .reset :: rest ∧ t = resetBlock (withHostq rest s)) ∨
    (∃ q v, popStep s = .next v ∧ t = withHostq q v) ∨
    (∃ rest, s.hostq = .op .pop :: rest ∧ popStep (withHostq rest s) = .next t) ∨
    (s.busy = false ∧ ∃ r c b rest, s.hostq = .op (.gw r c b) :: rest ∧ inStore r.toNat c.toNat = true ∧
      t = withGrid (gridWrite s.grid r.toNat c.toNat b) (withRet .nothing (withHostq rest s))) ∨
    (s.busy = false ∧ ∃ n v rest, s.hostq = .op (.wr n v) :: rest ∧ n ≠ 0#4 ∧
      t = writeReg n v (withRet .nothing (withHostq rest s))) ∨
    (s.busy = false ∧ ∃ v rest, s.hostq = .op (.wr 0#4 v) :: rest ∧
      issueCommand (v.setWidth 8) (withRet .nothing (withHostq rest s)) = .next t) := by
  unfold hostTurn at h
  split at h
  · simp only [Host.Outcome.next.injEq] at h
    exact .inl ⟨s.hostq, s.ret, h.symm⟩
  · rename_i o rest hq
    cases o with
    | wr n v =>
      simp only [performOp, hostWrite, withRet_busy, withHostq_busy] at h
      rcases Bool.eq_false_or_eq_true s.busy with hb | hb
      · simp only [hb, if_true, Host.Outcome.next.injEq] at h
        exact .inl ⟨_, _, h.symm⟩
      · simp only [hb, Bool.false_eq_true, if_false] at h
        by_cases hn : regName n = .cmd
        · have : n = 0#4 := (by decide : ∀ n : RegNum, regName n = .cmd → n = 0#4) n hn
          subst this
          rw [if_pos hn] at h
          exact .inr (.inr (.inr (.inr (.inr (.inr ⟨hb, v, rest, hq, h⟩)))))
        · rw [if_neg hn] at h
          have : n ≠ 0#4 := by
            rintro rfl
            exact hn rfl
          simp only [Host.Outcome.next.injEq] at h
          exact .inr (.inr (.inr (.inr (.inr (.inl ⟨hb, n, v, rest, hq, this, h.symm⟩)))))
    | rd n =>
      simp only [performOp, Host.Outcome.next.injEq] at h
      exact .inl ⟨_, _, h.symm⟩
    | gw r c b =>
      simp only [performOp, Host.Outcome.next.injEq, hostGridWrite, withRet_busy, withHostq_busy] at h
      rcases Bool.eq_false_or_eq_true s.busy with hb | hb
      · simp only [hb, if_true] at h
        exact .inl ⟨_, _, h.symm⟩
      · simp only [hb, Bool.false_eq_true, if_false] at h
        rcases writeCell_cases r.toNat c.toNat b (withRet .nothing (withHostq rest s)) with h' | ⟨hin, h'⟩
        · rw [h'] at h
          exact .inl ⟨_, _, h.symm⟩
        · rw [h'] at h
          exact .inr (.inr (.inr (.inr (.inl ⟨hb, r, c, b, rest, hq, hin, h.symm⟩))))
    | pop => exact .inr (.inr (.inr (.inl ⟨rest, hq, h⟩)))
  · rename_i rest hq
    simp only [Host.Outcome.next.injEq] at h
    exact .inr (.inl ⟨rest, hq, h.symm⟩)
  · rcases Bool.eq_false_or_eq_true s.busy with hb | hb <;>
      simp only [hb, Bool.false_eq_true, if_true, if_false, Host.Outcome.next.injEq] at h <;>
      exact .inl ⟨_, _, h.symm⟩
  · rename_i rest hq
    split at h
    · rename_i v hv
      split at h <;> simp only [Host.Outcome.next.injEq] at h
      · exact .inr (.inr (.inl ⟨rest, v, hv, h.symm⟩))
      · exact .inr (.inr (.inl ⟨v.hostq, v, hv, h.symm⟩))
    · cases h
    · cases h

/-! ## The format read and the walk -/

/-- Every format position is inside the grid (40_format_demux.md R81). -/
theorem formatRow_lt {n i : Nat} (h : LegalSide n) (hi : i < 15) : formatRow n i < n := by
  have := h.1
  unfold formatRow
  split <;> [skip; split] <;> omega

/-- So the read of a collection step is in range (20_memory.md R45). -/
theorem memRead_formatRow {s : State} {i : Nat} (h : LegalSide s.size.toNat) (hi : i < 15) :
    memRead s (formatRow (side s) i) formatCol = .ok (gridRead s.grid (formatRow (side s) i) formatCol) :=
  memRead_of_lt (formatRow_lt h hi) (by
    have := h.1
    show 8 < s.size.toNat
    omega)

theorem visitLength_pos {n : Nat} (h : LegalSide n) : 0 < visitLength n := by
  have := h.1
  exact Nat.mul_pos (by omega) (by omega)

/-- Where the walk goes on (43_data_scanner.md R144). -/
theorem afterVisit_cases (n k : Nat) :
    (k + 1 < visitLength n ∧ afterVisit n k = .scan (k + 1)) ∨
    (visitLength n ≤ k + 1 ∧ afterVisit n k = .atEnd) := by
  unfold afterVisit
  split <;> simp_all

/-- The closed form stays inside the grid (20_memory.md R45). -/
theorem visitAt_lt {n k : Nat} (h : LegalSide n) (hk : k < visitLength n) :
    (visitAt n k).1 < n ∧ (visitAt n k).2 < n := by
  obtain ⟨h0, hle, h4⟩ := h
  have hb := Config.NMAX_bounds
  have hq : k % (2 * n) < 2 * n := Nat.mod_lt _ (by omega)
  have hp : k / (2 * n) < n := by
    apply Nat.div_lt_of_lt_mul
    unfold visitLength at hk
    nlinarith [Nat.sub_le n 3]
  unfold visitAt
  simp only
  constructor
  · split <;> omega
  · unfold colAt
    split <;> [skip; split] <;> omega

/-- The data bits of two streams in a row. -/
theorem dataBits_append (a b : List Symbol) : dataBits (a ++ b) = dataBits a ++ dataBits b := by
  induction a with
  | nil => rfl
  | cons x a ih => cases x <;> simp [dataBits, ih]

end Sys2Proof.Machine
end

