-- ==== Sys2Proof/Laws/PerInstr.lean ====
section
/-! SUPPORT. Statements made instruction by instruction. -/

namespace Sys2Proof.Laws

/-- 30_encoding.md R60, R62: the command is well formed, bits 7:3 of its word are zero, and its OP is at most 4. -/
def CommandWord.Statement (i : Instr) : Prop :=
  i.wellFormed = true ∧ zeroField (encode i) = 0#5 ∧ (opField (encode i)).toNat ≤ 4

theorem CommandWord.nop : CommandWord.Statement .nop := by unfold CommandWord.Statement; decide

theorem CommandWord.fmt : CommandWord.Statement .fmt := by unfold CommandWord.Statement; decide

theorem CommandWord.scan : CommandWord.Statement .scan := by unfold CommandWord.Statement; decide

theorem CommandWord.run : CommandWord.Statement .run := by unfold CommandWord.Statement; decide

theorem CommandWord.probe : CommandWord.Statement .probe := by unfold CommandWord.Statement; decide

end Sys2Proof.Laws
end

