-- ==== Sys2Proof/Laws/Runs.lean ====
section
/-! SUPPORT. Runs of several steps: how they start, how they join, and that they are the host's runs. -/

namespace Sys2Proof.Machine

@[simp] theorem runFor_zero (s : State) : runFor 0 s = .next s := rfl

/-- A run of one step is that step. -/
theorem runFor_one {s t : State} (h : step s = .next t) : runFor 1 s = .next t := by
  simp only [runFor, h]

/-- A first step, then the others. -/
theorem runFor_succ {n : Nat} {s t : State} (h : step s = .next t) : runFor (n + 1) s = runFor n t := by
  simp only [runFor, h]

/-- Two runs join. -/
theorem runFor_add {a b : Nat} {s t u : State} (h1 : runFor a s = .next t) (h2 : runFor b t = .next u) :
    runFor (a + b) s = .next u := by
  induction a generalizing s with
  | zero =>
    cases h1
    simpa using h2
  | succ a ih =>
    rw [Nat.add_right_comm]
    cases hs : step s with
    | next v =>
      rw [runFor_succ hs] at h1 ⊢
      exact ih h1
    | fault f => simp only [runFor, hs, reduceCtorEq] at h1
    | refused r => simp only [runFor, hs, reduceCtorEq] at h1

/-- The host's run of this machine is the same run. -/
theorem runFor_eq_run (n : Nat) (s : State) : runFor n s = Host.Core.run Sys2Proof.core n s := by
  induction n generalizing s with
  | zero => rfl
  | succ n ih =>
    cases h : step s with
    | next t =>
      have hc : Sys2Proof.core.step s = .next t := h
      exact (runFor_succ h).trans ((ih t).trans (by simp only [Host.Core.run, hc]; rfl))
    | fault f =>
      have hc : Sys2Proof.core.step s = .fault f := h
      simp only [runFor, h]
      simp only [Host.Core.run, hc]
      rfl
    | refused r =>
      have hc : Sys2Proof.core.step s = .refused r := h
      simp only [runFor, h]
      simp only [Host.Core.run, hc]
      rfl

end Sys2Proof.Machine
end

