-- ==== Sys2Proof/Tests/Slice0.lean ====
section
/-! SUPPORT. Tests and witnesses. The expected values come from the spec: the encodings of 30_encoding.md and the
vectors V-F, V-M, V-C, V-S and V-E of 95_test_vectors.md, named at each test. -/

namespace Sys2Proof.Tests

open Sys2Proof.Machine

/-! ## Helpers -/

/-- After reset, with SIZE = 21. -/
def idle21 : State := { State.reset with size := 21#8 }

/-- `idle21` with lines for the host. -/
def hosting (q : List HostLine) : State := { idle21 with hostq := q }

/-- A block that reads the format (40_format_demux.md R86). -/
def reading21 (c : LatchedCommand) (i : Fin 15) (x : FormatWord) : State :=
  { idle21 with busy := true, cmdl := c, seq := .fmt i, rawsh := x }

/-- A block that runs SCAN (43_data_scanner.md R143). -/
def scanning21 (q : SeqState) : State := { idle21 with busy := true, cmdl := .scan, seq := q }

/-- A view of the next state. -/
def onNext {α : Type} (f : State → α) : Result → Option α
  | .next t => some (f t)
  | .fault _ => none
  | .refused _ => none

/-! ## WellFormed -/

/-- 45_environment_collaborators.md R175: "Grid must be square". -/
theorem test_gridSquare_refuses : gridSquare [[true, false], [true]] = false := by decide

theorem test_gridWellFormed_refuses_not_square : gridWellFormed [[true, false]] = false := by decide

/-- 10_state.md R17: SIZE has 8 bits. -/
theorem test_gridSideFits_refuses : gridSideFits (List.replicate 256 []) = false := by
  rw [gridSideFits, List.length_replicate]
  decide

theorem test_gridWellFormed_refuses_wide :
    gridWellFormed (List.replicate 256 (List.replicate 256 false)) = false := by
  rw [gridWellFormed, gridSideFits, List.length_replicate, Bool.and_comm]
  rfl

theorem test_gridWellFormed_accepts : gridWellFormed [[true, false], [false, true]] = true := by decide

theorem test_commands_wellFormed :
    [Instr.nop, .fmt, .scan, .run, .probe].all Instr.wellFormed = true := by decide

/-! ## Decode: the words of 30_encoding.md R61, R64 and R66, written out bit by bit -/

theorem test_decode_nop : decode 0b00000000#8 = .ok .nop := by decide
theorem test_decode_fmt : decode 0b00000001#8 = .ok .fmt := by decide
theorem test_decode_scan : decode 0b00000010#8 = .ok .scan := by decide
theorem test_decode_run : decode 0b00000011#8 = .ok .run := by decide
theorem test_decode_probe : decode 0b00000100#8 = .ok .probe := by decide

/-- V-E8. -/
theorem test_decode_0x05 : decode 0x05#8 = .error .reservedOp := by decide

/-- V-E9: OP = 011 with bit 3 set. -/
theorem test_decode_0x0B : decode 0b00001011#8 = .error .zeroFieldSet := by decide

theorem test_decodeTableWord :
    (List.range 6).map (decodeTableWord 8) =
      [some .nop, some .fmt, some .scan, some .run, some .probe, none] := by decide

/-- `WR SIZE, 21` is kind 01, number 2, value 21 (R66). -/
theorem test_record_wr : decodeRecord 0b01000000000000100000000000010101#32 = some (.wr 2#4 21#16) := by decide

/-- `RD STATUS` is kind 00, number 1 (R66). -/
theorem test_record_rd : decodeRecord 0b00000000000000010000000000000000#32 = some (.rd 1#4) := by decide

/-- `GW 20, 8, SET` is kind 10, row, column, bit 0 (R66). -/
theorem test_record_gw : decodeRecord 0b10000000000101000000100000000001#32 = some (.gw 20#8 8#8 true) := by decide

/-- `POP` is kind 11 (R66). -/
theorem test_record_pop : decodeRecord 0xC0000000#32 = some .pop := by decide

/-- A set bit in "rest" is no operation (log 11). -/
theorem test_record_rest : decodeRecord 0xC0000001#32 = none := by decide

/-! ## The fetch the host asks about -/

/-- The next step after `withFetchWord` runs the command: RUN with SIZE = 0 reports InvalidGridShape (V-E1). -/
theorem test_withFetchWord_run :
    onNext (fun t => readReg t 1#4) (step (State.reset.withFetchWord 8 3)) = some 0x10#16 := by decide

/-- V-E10: bits 15 to 8 of the word written to CMD are ignored. -/
theorem test_high_byte_ignored :
    onNext (fun t => (t.seq, t.cmdl)) (step (hosting [.op (.wr 0#4 0xFF03#16)])) = some (.fmt 0, .run) := by decide

/-! ## One step of each command -/

/-- V-E11. -/
theorem test_nop_keeps_error :
    onNext (fun t => readReg t 1#4) (exec .nop { idle21 with err := 6#4 }) = some 0x60#16 := by decide

/-- V-E2: SIZE = 22 is no legal size. -/
theorem test_fmt_size_22 :
    onNext (fun t => (readReg t 1#4, t.seq)) (exec .fmt { State.reset with size := 22#8 }) =
      some (0x10#16, .idle) := by decide

/-- V-E12: the error is cleared and the read begins. -/
theorem test_fmt_clears_error :
    onNext (fun t => (readReg t 1#4, t.seq)) (exec .fmt { idle21 with err := 6#4, fmtv := true }) =
      some (0x01#16, .fmt 0) := by decide

/-- V-E3. -/
theorem test_scan_size_20 :
    onNext (fun t => readReg t 1#4) (exec .scan { State.reset with size := 20#8 }) = some 0x10#16 := by decide

/-- 43_data_scanner.md R143: BS and COUNT are emptied. -/
theorem test_scan_empties_stream :
    onNext (fun t => (t.bs, t.count, t.seq))
      (exec .scan { idle21 with bs := [.data true, .sentinel], count := 1#16 }) =
      some ([], 0#16, .scan 0) := by decide

/-- V-E1. -/
theorem test_run_after_reset :
    onNext (fun t => readReg t 1#4) (exec .run State.reset) = some 0x10#16 := by decide

/-- 44_control_commands.md R162: RUN clears FMTV and keeps BS until the scan begins. -/
theorem test_run_begins :
    onNext (fun t => (t.fmtv, t.seq, t.bs)) (exec .run { idle21 with fmtv := true, bs := [.sentinel] }) =
      some (false, .fmt 0, [.sentinel]) := by decide

/-- V-E6: the row is outside the grid. -/
theorem test_probe_out_of_bounds :
    onNext (fun t => (readReg t 1#4, t.pres)) (exec .probe { idle21 with prow := 21#8, pres := 9#4 }) =
      some (0x20#16, 9#4) := by decide

/-- V-E15: a CLEAR data cell that mask 4 inverts. -/
theorem test_probe_cell :
    onNext (fun t => (readReg t 10#4, t.done))
      (exec .probe { idle21 with grid := [(cellKey 1 12, false)], mask := 4#3, prow := 1#8, pcol := 12#8 }) =
      some (0xC#16, true) := by decide

/-! ## The format read -/

/-- V-F4: FMTRAW 0x77C4 un-masks to 0x23D6, level L, mask 0. -/
theorem test_unmask_VF4 :
    packHigh 15 (unmask (bitsLow 0x77C4#15)) = 0x23D6#15 ∧
    levelOf (errorLevelBits (unmask (bitsLow 0x77C4#15))) = .L ∧
    maskIdBits (unmask (bitsLow 0x77C4#15)) = 0#3 := by decide

/-- V-F1: all CLEAR un-masks to the key, level H, mask 5. -/
theorem test_unmask_VF1 :
    packHigh 15 (unmask (bitsLow 0#15)) = 0x5412#15 ∧ levelOf 2#2 = .H ∧
    maskIdBits (unmask (bitsLow 0#15)) = 5#3 := by decide

/-- V-F4 again, as the last collection step of FMT: bit 14 is the module at (20, 8). -/
theorem test_format_completes :
    onNext (fun t => (readReg t 1#4, t.fmtraw, t.fmtinfo, t.mask))
      (sequencerTurn { reading21 .fmt 14 0x37C4#15 with grid := [(cellKey 20 8, true)], mask := 7#3 }) =
      some (0x06#16, 0x77C4#15, 0x23D6#15, 0#3) := by decide

/-! ## The ROM, the classifier and the walk -/

/-- V-M2, every point. -/
theorem test_mask_points :
    [shouldInvert 0#3 20 20, shouldInvert 0#3 20 19, shouldInvert 1#3 20 3, shouldInvert 2#3 7 18,
      shouldInvert 3#3 20 19, shouldInvert 4#3 1 12, shouldInvert 4#3 1 9, shouldInvert 4#3 2 12,
      shouldInvert 4#3 20 20, shouldInvert 5#3 20 18, shouldInvert 5#3 20 20, shouldInvert 6#3 20 19,
      shouldInvert 6#3 20 20, shouldInvert 6#3 1 5, shouldInvert 7#3 20 20, shouldInvert 7#3 19 19,
      shouldInvert 5#3 252 251, shouldInvert 6#3 251 251] =
    [true, false, true, true, true, true, false, false, false, true, false, true, false, false, true, false,
      true, true] := by decide

/-- V-C3, 42_function_pattern_classifier.md R125: corners. -/
theorem test_classifier_corners :
    isFunctionPattern 21 21 0 0 = true ∧ isFunctionPattern 21 21 0 20 = true ∧
    isFunctionPattern 21 21 20 0 = true ∧ isFunctionPattern 21 21 20 20 = false := by decide

/-- 43_data_scanner.md R136 for N = 21, V-S1. -/
theorem test_colseq_21 : colseq 21 = [20, 18, 16, 14, 12, 10, 8, 5, 3] := by decide

/-- A data cell: the module (20, 20), inverted by mask 0, crosses the port (43_data_scanner.md R145). -/
theorem test_pop_data :
    onNext (fun t => (t.ret, t.count, t.seq))
      (popStep { scanning21 (.scan 0) with grid := [(cellKey 20 20, false)] }) =
      some (.symbol 0b01#2, 1#16, .scan 1) := by decide

/-! ## Other tests -/

/-- The rows of CAT21 (95_test_vectors.md V-S3), column 0 leftmost. -/
def cat21 : List Nat :=
  [0b111111100010101111111, 0b100000100101001000001, 0b101110101010101011101,
    0b101110100101001011101, 0b101110100010101011101, 0b100000100101001000001,
    0b111111101010101111111, 0b000000001101000000000, 0b000000101010100000000,
    0b000101010101010101011, 0b001010101010101011111, 0b000101010101010100001,
    0b001010101010000001001, 0b000101010101000000011, 0b111111101010000000111,
    0b100000101101000001001, 0b101110101010000000101, 0b101110100101010101010,
    0b101110101010101010101, 0b100000101101010101010, 0b111111101010101010111]

/-- The store after LOADGRID CAT21. -/
def cat21Grid : Memory :=
  cat21.zipIdx.flatMap fun row => (List.range 21).map fun c => (cellKey row.2 c, row.1.testBit (20 - c))

/-- 45_environment_collaborators.md R186: "errorLevel=L, maskId=0, dataMode=Byte, length=3, payload=cat". -/
theorem test_cat21 :
    levelOf (formatInfo cat21Grid 21).ec = .L ∧ (formatInfo cat21Grid 21).mid = 0#3 ∧
    (interpret (scanSymbols cat21Grid 21 0#3)).toOption =
      some { mode := .byte, length := 3, payload := [0x63#8, 0x61#8, 0x74#8] } := by decide +kernel

/-- 45_environment_collaborators.md R176 on CAT21, whose timing strips are whole, and on a grid with one wrong module. -/
theorem test_timing :
    alignmentAdvisory cat21Grid 21 = none ∧
    timingMismatches (gridWrite cat21Grid 6 9 true) 21 =
      [{ row := 6, col := 9, expected := false, actual := true }] := by decide +kernel

/-- V-E19: 23 is no legal size. -/
theorem test_version : readReg idle21 7#4 = 1#16 ∧ readReg { idle21 with size := 23#8 } 7#4 = 0#16 := by decide

/-- 30_encoding.md R70: 0, 1 and 2 are carried as 00, 01 and 10; 11 stands for none. -/
theorem test_symbol_codes :
    [symbolCode (.data false), symbolCode (.data true), symbolCode .sentinel] = [0b00#2, 0b01#2, 0b10#2] ∧
    symbolOfCode 0b11#2 = none := by decide

/-- 45_environment_collaborators.md R175: white space is stripped, a blank line dropped, a foreign character kept. -/
theorem test_loadText :
    loadText [[' ', '1', 'x'], [' '], ['0', '1', ' ']] =
        .ok { rows := [['1', 'x'], ['0', '1']], width := 2, height := 2, version := none } ∧
    (loadText [['1', 'x'], ['0', '1']]).toOption.map (renderGrid '#') = some [['#', 'x'], [' ', '#']] ∧
    (loadText [['1', 'x'], ['0', '1']]).toOption.map modulesOfGrid = some none := by decide

/-- 45_environment_collaborators.md R179: a structured error, InvalidGridShape, for a grid that is not square. -/
theorem test_decode_not_square :
    decodeGrid [[true, false]] = .next (.error .invalidGridShape) ∧
    decodeText [['1', '0']] = some (.next (.error .invalidGridShape)) := ⟨rfl, rfl⟩

/-- 30_encoding.md R67. -/
theorem test_levels : [levelOf 0#2, levelOf 1#2, levelOf 2#2, levelOf 3#2] = [.M, .L, .H, .Q] := by decide

/-! ## Witnesses: for each statement with hypotheses, operands that meet all of them -/

/-- StepRunsDecodedCommand. -/
theorem witness_StepRunsDecodedCommand :
    nextAgent (hosting [.op (.wr 0#4 3#16)]) = .host ∧
    (hosting [.op (.wr 0#4 3#16)]).hostq = [.op (.wr 0#4 3#16)] ∧
    (hosting [.op (.wr 0#4 3#16)]).busy = false ∧ decode ((3#16).extractLsb' 0 8) = .ok .run := by decide

/-- StepReportsIllegalWord, with the word of V-E9. -/
theorem witness_StepReportsIllegalWord :
    nextAgent (hosting [.op (.wr 0#4 0x0B#16)]) = .host ∧
    (hosting [.op (.wr 0#4 0x0B#16)]).hostq = [.op (.wr 0#4 0x0B#16)] ∧
    (hosting [.op (.wr 0#4 0x0B#16)]).busy = false ∧
    decode ((0x0B#16).extractLsb' 0 8) = .error .zeroFieldSet := by decide

/-- A scan waiting for `POP`, with a line for the host (V-E17). -/
def waiting21 (l : HostLine) : State := { scanning21 (.scan 0) with hostq := [l] }

/-- BusyBlockDropsWrites, a register write and a grid write of V-E17. -/
theorem witness_BusyBlockDropsWrites :
    (nextAgent (waiting21 (.op (.wr 3#4 7#16))) = .host ∧ (waiting21 (.op (.wr 3#4 7#16))).busy = true ∧
      (waiting21 (.op (.wr 3#4 7#16))).hostq = [.op (.wr 3#4 7#16)]) ∧
    (nextAgent (waiting21 (.op (.gw 20#8 20#8 false))) = .host ∧
      (waiting21 (.op (.gw 20#8 20#8 false))).busy = true ∧
      (waiting21 (.op (.gw 20#8 20#8 false))).hostq = [.op (.gw 20#8 20#8 false)]) := by decide

/-- NopChangesNothing: the word 0x00 under any high byte. -/
theorem witness_NopChangesNothing :
    (0#16).extractLsb' 0 8 = 0#8 ∧ (0xFF00#16).extractLsb' 0 8 = 0#8 := by decide

/-- FmtAccepted, ScanAccepted, RunAccepted: a legal SIZE, the smallest. -/
theorem witness_FmtAccepted : LegalSide idle21.size.toNat := legalSide_21
theorem witness_ScanAccepted : LegalSide idle21.size.toNat := legalSide_21
theorem witness_RunAccepted : LegalSide idle21.size.toNat := legalSide_21

/-- The largest legal SIZE is legal as well: NMAX itself, whatever it is. -/
theorem witness_LegalSide_NMAX : LegalSide Config.NMAX :=
  ⟨Config.NMAX_bounds.1, Nat.le_refl _, Config.NMAX_bounds.2.2⟩

/-- ProbeReportsCell: the corner (20, 20) of V-E13. -/
theorem witness_ProbeReportsCell :
    LegalSide idle21.size.toNat ∧ ({ idle21 with prow := 20#8, pcol := 20#8 } : State).prow.toNat < 21 ∧
    ({ idle21 with prow := 20#8, pcol := 20#8 } : State).pcol.toNat < 21 :=
  ⟨legalSide_21, by decide, by decide⟩

/-- IllegalSizeReported: 0, just below 21, just above 21, and 255. -/
theorem witness_IllegalSizeReported :
    Instr.run ≠ .nop ∧ ¬ LegalSide State.reset.size.toNat ∧ ¬ LegalSide 20 ∧ ¬ LegalSide 22 ∧ ¬ LegalSide 255 := by
  have h := Config.NMAX_bounds
  refine ⟨by decide, ?_, ?_, ?_, ?_⟩ <;> rintro ⟨h1, h2, h3⟩
  · exact absurd h1 (by decide)
  · omega
  · omega
  · omega

/-- ChecksComeInOrder: one input for each clause; V-E6 and V-E7 for the third. -/
theorem witness_ChecksComeInOrder :
    decode 5#8 = .error .reservedOp ∧
    (decode 4#8 = .ok .probe ∧ Instr.probe ≠ .nop ∧ ¬ LegalSide State.reset.size.toNat) ∧
    (LegalSide idle21.size.toNat ∧ idle21.size.toNat ≤ ({ idle21 with prow := 21#8 } : State).prow.toNat) ∧
    (LegalSide idle21.size.toNat ∧ idle21.size.toNat ≤ ({ idle21 with pcol := 255#8 } : State).pcol.toNat) :=
  ⟨by decide, ⟨by decide, by decide, witness_IllegalSizeReported.2.1⟩, ⟨legalSide_21, by decide⟩,
    ⟨legalSide_21, by decide⟩⟩

/-- AcceptanceFrame: a command that goes on, one that ends with an error, and a NOP. -/
theorem witness_AcceptanceFrame :
    (∃ t, exec .fmt idle21 = .next t) ∧ (∃ t, exec .scan State.reset = .next t) ∧
    ∃ t, exec .nop idle21 = .next t :=
  ⟨⟨_, rfl⟩, ⟨_, rfl⟩, ⟨_, rfl⟩⟩

/-- The statements about a legal side: FormatPositions, FormatFieldWrittenOut, ClassifierCounts, ColumnSequence,
PairDirections, VisitClosedForm, VisitedColumns, OrderListsEachCellOnce, OrderLength, InterpretFailsOnShortStream. -/
theorem witness_LegalSide : LegalSide 21 := legalSide_21

/-- PairDirections, the first and the last alternating pair; VisitClosedForm, the first and the last index. -/
theorem witness_walk_bounds : 0 ≤ (21 - 9) / 2 ∧ (6 : Nat) ≤ (21 - 9) / 2 ∧ 0 < 21 * (21 - 3) ∧ 377 < 21 * (21 - 3) := by
  decide

/-- FormatXorSelfInverse: fifteen bits. -/
theorem witness_FormatXorSelfInverse : (List.replicate 15 true).length = 15 := by decide

/-- CollectionStepReadsModule: the first step and the last that is not the completion. -/
theorem witness_CollectionStepReadsModule :
    ((reading21 .fmt 0 0#15).seq = .fmt 0 ∧ (0 : Fin 15).val < 14 ∧
      LegalSide (reading21 .fmt 0 0#15).size.toNat) ∧
    ((reading21 .run 13 0#15).seq = .fmt 13 ∧ (13 : Fin 15).val < 14 ∧
      LegalSide (reading21 .run 13 0#15).size.toNat) :=
  ⟨⟨rfl, by decide, legalSide_21⟩, ⟨rfl, by decide, legalSide_21⟩⟩

/-- FormatReadCompletes: FMT and RUN. -/
theorem witness_FormatReadCompletes :
    ((reading21 .fmt 14 0#15).seq = .fmt 14 ∧ LegalSide (reading21 .fmt 14 0#15).size.toNat ∧
      (reading21 .fmt 14 0#15).cmdl = .fmt) ∧
    ((reading21 .run 14 0#15).seq = .fmt 14 ∧ LegalSide (reading21 .run 14 0#15).size.toNat ∧
      (reading21 .run 14 0#15).cmdl = .run) :=
  ⟨⟨rfl, legalSide_21, rfl⟩, ⟨rfl, legalSide_21, rfl⟩⟩

/-- The control invariant of a block that reads the format. -/
theorem control_reading21 (g : Memory) (hg : Memory.wf g = true) (i : Fin 15) (x : FormatWord) :
    ControlInv { reading21 .fmt i x with grid := g } :=
  { grid_wf := hg
    busy_iff := by simp [reading21]
    running_size := fun _ => legalSize_21
    running_report := fun _ => ⟨rfl, rfl⟩
    format_read := fun _ _ => ⟨by simp [reading21], rfl⟩
    scan_domain := by simp [reading21]
    scanning := by simp [reading21]
    err_codes := .inl rfl
    done_no_error := by simp [reading21, idle21, State.reset] }

/-- The control invariant of a block that scans. -/
theorem control_scanning21 (g : Memory) (hg : Memory.wf g = true) (k : Nat) (hk : k < 378) :
    ControlInv { scanning21 (.scan k) with grid := g } :=
  { grid_wf := hg
    busy_iff := by simp [scanning21]
    running_size := fun _ => legalSize_21
    running_report := fun _ => ⟨rfl, rfl⟩
    format_read := by simp [scanning21]
    scan_domain := by
      intro j hj
      simp only [scanning21, SeqState.scan.injEq] at hj
      exact hj ▸ hk
    scanning := fun _ => ⟨by simp [scanning21], by simp [scanning21]⟩
    err_codes := .inl rfl
    done_no_error := by simp [scanning21, idle21, State.reset] }

/-- The control invariant of an idle block. -/
theorem control_hosting (q : List HostLine) : ControlInv (hosting q) :=
  { grid_wf := rfl
    busy_iff := by simp [hosting, idle21, State.reset]
    running_size := by simp [hosting, idle21, State.reset]
    running_report := by simp [hosting, idle21, State.reset]
    format_read := by simp [hosting, idle21, State.reset]
    scan_domain := by simp [hosting, idle21, State.reset]
    scanning := by simp [hosting, idle21, State.reset]
    err_codes := .inl rfl
    done_no_error := by simp [hosting, idle21, State.reset] }

/-- The module (0, 8) is SET. -/
def setAt0_8 : Memory := [(cellKey 0 8, true)]

/-- FormatInvKept: one module is collected. -/
theorem witness_FormatInvKept :
    ControlInv { reading21 .fmt 1 1#15 with grid := setAt0_8 } ∧
    FormatInv { reading21 .fmt 1 1#15 with grid := setAt0_8 } ∧
    ∃ t, step { reading21 .fmt 1 1#15 with grid := setAt0_8 } = .next t := by
  refine ⟨control_reading21 _ (by decide) _ _, ?_, ⟨_, rfl⟩⟩
  intro i hi j hj
  simp only [reading21, SeqState.fmt.injEq] at hi
  subst hi
  obtain rfl : j = 0 := by simpa using hj
  decide

/-- FmtDeliversFormatInfo: an idle block, the smallest grid. -/
theorem witness_FmtDeliversFormatInfo :
    (hosting [commandLine .fmt]).seq = .idle ∧ (hosting [commandLine .fmt]).busy = false ∧
    LegalSide (hosting [commandLine .fmt]).size.toNat ∧ (hosting [commandLine .fmt]).turns = [] ∧
    (hosting [commandLine .fmt]).hostq = commandLine .fmt :: [] :=
  ⟨rfl, rfl, legalSide_21, rfl, rfl⟩

/-- The walk of the smallest grid: its first cell is a data cell, its cell 24 a function pattern. -/
theorem walk21 :
    (visit 21)[0]? = some (20, 20) ∧ isFunctionPattern 21 21 20 20 = false ∧
    (visit 21)[24]? = some (8, 20) ∧ isFunctionPattern 21 21 8 20 = true := by decide

/-- VisitStepSkips. -/
theorem witness_VisitStepSkips :
    LegalSide (scanning21 (.scan 24)).size.toNat ∧ (scanning21 (.scan 24)).seq = .scan 24 ∧
    (visit (scanning21 (.scan 24)).size.toNat)[24]? = some (8, 20) ∧
    isFunctionPattern (scanning21 (.scan 24)).size.toNat (scanning21 (.scan 24)).size.toNat 8 20 = true :=
  ⟨legalSide_21, rfl, walk21.2.2.1, walk21.2.2.2⟩

/-- VisitStepEmits. -/
theorem witness_VisitStepEmits :
    LegalSide (scanning21 (.scan 0)).size.toNat ∧ (scanning21 (.scan 0)).seq = .scan 0 ∧
    (visit (scanning21 (.scan 0)).size.toNat)[0]? = some (20, 20) ∧
    isFunctionPattern (scanning21 (.scan 0)).size.toNat (scanning21 (.scan 0)).size.toNat 20 20 = false :=
  ⟨legalSide_21, rfl, walk21.1, walk21.2.1⟩

/-- EndStepEmitsSentinel. -/
theorem witness_EndStepEmitsSentinel : (scanning21 .atEnd).seq = .atEnd := rfl

/-- PopWithoutSymbol: both cases. -/
theorem witness_PopWithoutSymbol :
    idle21.seq = .idle ∧ ∃ i, (reading21 .fmt 14 0#15).seq = .fmt i := ⟨rfl, ⟨_, rfl⟩⟩

/-- UndrainedScanWaits: at a data cell and at the end, with a host that writes, reads and waits. -/
theorem witness_UndrainedScanWaits :
    (LegalSide (scanning21 .atEnd).size.toNat ∧ (scanning21 .atEnd).busy = true ∧
      (scanning21 .atEnd).seq = .atEnd) ∧
    (LegalSide (waiting21 .wait).size.toNat ∧ (waiting21 .wait).busy = true ∧
      (∃ k r c, (waiting21 .wait).seq = .scan k ∧ (visit (waiting21 .wait).size.toNat)[k]? = some (r, c) ∧
        isFunctionPattern (waiting21 .wait).size.toNat (waiting21 .wait).size.toNat r c = false) ∧
      ∀ l ∈ (waiting21 .wait).hostq, l ≠ .op .pop ∧ l ≠ .drain ∧ l ≠ .reset) :=
  ⟨⟨legalSide_21, rfl, rfl⟩, legalSide_21, rfl, ⟨0, 20, 20, rfl, walk21.1, walk21.2.1⟩, by decide⟩

/-- The module (20, 20) is SET. -/
def setAt20_20 : Memory := [(cellKey 20 20, true)]

/-- A scan that has emitted the module (20, 20), which mask 0 inverts, and waits at (20, 19). -/
def emitted21 : State :=
  { scanning21 (.scan 1) with grid := setAt20_20, bs := [.data false], count := 1#16, hostq := [.op .pop] }

theorem control_emitted21 : ControlInv emitted21 :=
  ControlInv.sameBlock ⟨[.op .pop], [], .nothing, rfl⟩
    (show ControlInv { emitted21 with hostq := [] } from
      ⟨rfl, (control_scanning21 setAt20_20 (by decide) 1 (by decide)).2,
        (control_scanning21 setAt20_20 (by decide) 1 (by decide)).3,
        (control_scanning21 setAt20_20 (by decide) 1 (by decide)).4,
        (control_scanning21 setAt20_20 (by decide) 1 (by decide)).5,
        (control_scanning21 setAt20_20 (by decide) 1 (by decide)).6,
        (control_scanning21 setAt20_20 (by decide) 1 (by decide)).7, .inl rfl, fun h => nomatch h⟩)

/-- StreamInvKept: the scan is at its second cell, and its `POP` is a next state. -/
theorem witness_StreamInvKept :
    ControlInv emitted21 ∧ StreamInv emitted21 ∧ ∃ t, step emitted21 = .next t := by
  refine ⟨control_emitted21, ⟨?_, fun h => nomatch h⟩, ⟨_, rfl⟩⟩
  intro k hk
  simp only [emitted21, scanning21, SeqState.scan.injEq] at hk
  subst hk
  decide

/-- ScanDeliversStream: an idle block, the smallest grid. -/
theorem witness_ScanDeliversStream :
    (hosting [commandLine .scan, .drain]).seq = .idle ∧ (hosting [commandLine .scan, .drain]).busy = false ∧
    LegalSide (hosting [commandLine .scan, .drain]).size.toNat ∧
    (hosting [commandLine .scan, .drain]).turns = [] ∧
    (hosting [commandLine .scan, .drain]).hostq = commandLine .scan :: .drain :: [] :=
  ⟨rfl, rfl, legalSide_21, rfl, rfl⟩

/-- RunIsFmtThenScan. -/
theorem witness_RunIsFmtThenScan :
    idle21.seq = .idle ∧ idle21.busy = false ∧ LegalSide idle21.size.toNat ∧ idle21.turns = [] :=
  ⟨rfl, rfl, legalSide_21, rfl⟩

/-- ScanReadsVisitedDataCellsOnly: two grids that differ at the function pattern (10, 6) and at the data cell (9, 0)
that no scan visits (V-E16). -/
theorem witness_ScanReadsVisitedDataCellsOnly (b d : Bool) :
    LegalSide 21 ∧
    ∀ r c, r < 21 → 2 ≤ c → c < 21 → c ≠ 6 → isFunctionPattern 21 21 r c = false →
      gridRead [] r c = gridRead (gridWrite (gridWrite [] 10 6 b) 9 0 d) r c := by
  refine ⟨legalSide_21, ?_⟩
  intro r c _ hc hc' h6 _
  rw [gridRead_gridWrite_other _ _ (by decide) (by omega) (by omega),
    gridRead_gridWrite_other _ _ (by decide) (by omega) (by omega)]

/-- RegisterWrites: the four writable numbers, the read-only 1, and the reserved 11 and 15. -/
theorem witness_RegisterWrites :
    ∀ n ∈ [1#4, 2#4, 3#4, 8#4, 9#4, 11#4, 15#4],
      nextAgent (hosting [.op (.wr n 0x1FF#16)]) = .host ∧
      (hosting [.op (.wr n 0x1FF#16)]).hostq = [.op (.wr n 0x1FF#16)] ∧
      (hosting [.op (.wr n 0x1FF#16)]).busy = false ∧ n ≠ 0#4 := by decide

/-- RegisterReads: the first and the last reserved number. -/
theorem witness_RegisterReads : 11 ≤ (11#4 : RegNum).toNat ∧ 11 ≤ (15#4 : RegNum).toNat := by decide

/-- VersionRegister: both cases. -/
theorem witness_VersionRegister :
    LegalSide idle21.size.toNat ∧ ¬ LegalSide State.reset.size.toNat :=
  ⟨legalSide_21, witness_IllegalSizeReported.2.1⟩

/-- ReadHasNoSideEffect: an idle block and a busy one. -/
theorem witness_ReadHasNoSideEffect :
    (nextAgent (hosting [.op (.rd 7#4)]) = .host ∧ (hosting [.op (.rd 7#4)]).hostq = [.op (.rd 7#4)]) ∧
    (nextAgent (waiting21 (.op (.rd 6#4))) = .host ∧
      (waiting21 (.op (.rd 6#4))).hostq = [.op (.rd 6#4)]) := by decide

/-- ReadAndSequencerCommute: the completion of a format read. -/
theorem witness_ReadAndSequencerCommute : ∃ u, sequencerTurn (reading21 .run 14 0#15) = .next u := ⟨_, rfl⟩

/-- ResetEvent: a running command, the host named by `turns`. -/
theorem witness_ResetEvent :
    nextAgent { reading21 .run 7 0#15 with hostq := [.reset], turns := [.host] } = .host ∧
    ({ reading21 .run 7 0#15 with hostq := [.reset], turns := [.host] } : State).hostq = .reset :: [] := by decide

/-- GridWriteChangesOneCell: a cell of every store, and the first coordinate that no store has. -/
theorem witness_GridWriteChangesOneCell :
    (nextAgent (hosting [.op (.gw 20#8 20#8 true)]) = .host ∧
      (hosting [.op (.gw 20#8 20#8 true)]).hostq = [.op (.gw 20#8 20#8 true)] ∧
      (hosting [.op (.gw 20#8 20#8 true)]).busy = false) ∧
    (20 < Config.NMAX ∧ 20 < Config.NMAX) ∧
    (nextAgent (hosting [.op (.gw 253#8 0#8 true)]) = .host ∧
      (hosting [.op (.gw 253#8 0#8 true)]).hostq = [.op (.gw 253#8 0#8 true)] ∧
      (hosting [.op (.gw 253#8 0#8 true)]).busy = false) ∧
    ¬ (253 < Config.NMAX ∧ 0 < Config.NMAX) := by
  have h := Config.NMAX_bounds
  exact ⟨by decide, by omega, by decide, by omega⟩

/-- GridChangesOnlyByGridWrite: a step that changes the grid. -/
theorem witness_GridChangesOnlyByGridWrite :
    ∃ t, step (hosting [.op (.gw 0#8 0#8 true)]) = .next t ∧ t.grid ≠ (hosting [.op (.gw 0#8 0#8 true)]).grid :=
  ⟨_, rfl, by decide⟩

/-- The last collection step is due, the module (20, 8) is CLEAR, and the host's next line is a reset. -/
def resetQueued21 : State :=
  { reading21 .fmt 14 0#15 with grid := [(cellKey 20 8, false)], hostq := [.reset] }

/-- OperandsConstantWhileBusy: a busy block steps while a reset is queued, and MASK changes when the format read
completes (V-F1: every module CLEAR). -/
theorem witness_OperandsConstantWhileBusy :
    ∃ t, step resetQueued21 = .next t ∧ resetQueued21.busy = true ∧
      ¬ (nextAgent resetQueued21 = .host ∧ ∃ rest, resetQueued21.hostq = .reset :: rest) ∧
      t.mask ≠ resetQueued21.mask :=
  ⟨_, rfl, rfl, fun h => absurd h.1 (by decide), by decide⟩

/-- ControlInvKept: a running scan. -/
theorem witness_ControlInvKept : ControlInv emitted21 ∧ ∃ t, step emitted21 = .next t :=
  ⟨control_emitted21, ⟨_, rfl⟩⟩

/-- ControlledMachineNeverStops. -/
theorem witness_ControlledMachineNeverStops : ControlInv emitted21 := control_emitted21

/-- RegisterInvKept: a running scan with one bit emitted. -/
theorem witness_RegisterInvKept :
    ControlInv emitted21 ∧ RegisterInv emitted21 ∧ ∃ t, step emitted21 = .next t :=
  ⟨control_emitted21,
    { count_bits := by decide
      format_words := fun h => nomatch h
      probe_bit := by decide
      sentinel_last := by decide
      sentinel_not_yet := fun _ => by decide }, ⟨_, rfl⟩⟩

/-- ErrorReportPersists: an illegal word changes ERR (V-E8). -/
theorem witness_ErrorReportPersists :
    ∃ t, ControlInv (hosting [.op (.wr 0#4 5#16)]) ∧ (hosting [.op (.wr 0#4 5#16)]).busy = false ∧
      step (hosting [.op (.wr 0#4 5#16)]) = .next t ∧
      (t.err ≠ (hosting [.op (.wr 0#4 5#16)]).err ∨ t.done ≠ (hosting [.op (.wr 0#4 5#16)]).done) :=
  ⟨_, control_hosting _, rfl, rfl, .inl (by decide)⟩

/-- FormatRegistersChangeTogether: the completion of a read, and a reset. -/
theorem witness_FormatRegistersChangeTogether :
    (∃ t, step (reading21 .run 14 0#15) = .next t ∧ (reading21 .run 14 0#15).fmtv = false ∧ t.fmtv = true) ∧
    ∃ t, step { hosting [.reset] with fmtraw := 1#15 } = .next t ∧ t.fmtraw ≠ 1#15 :=
  ⟨⟨_, rfl, rfl, rfl⟩, ⟨_, rfl, by decide⟩⟩

/-- InterpretReadsSegment: the empty payload and the longest. -/
theorem witness_InterpretReadsSegment :
    ([] : List (BitVec 8)).length < 256 ∧ (List.replicate 255 (0xA5#8)).length < 256 :=
  ⟨by decide, by rw [List.length_replicate]; decide⟩

end Sys2Proof.Tests
end

section
/-! The control invariant, move by move: one rule for each shape of SEQ, then the moves. -/

namespace Sys2Proof.Machine

/-! ## How a state meets the control invariant, by its SEQ (10_state.md R27) -/

/-- An idle block meets the invariant when its store and its report do. -/
theorem ControlInv.of_idle {s : State} (hg : Memory.wf s.grid = true) (hq : s.seq = .idle) (hb : s.busy = false)
    (he : s.err = 0#4 ∨ s.err = 1#4 ∨ s.err = 2#4 ∨ s.err = 6#4) (hd : s.done = true → s.err = 0#4) :
    ControlInv s where
  grid_wf := hg
  busy_iff := by simp [hq, hb]
  running_size := by simp [hq]
  running_report := by simp [hq]
  format_read := by simp [hq]
  scan_domain := by simp [hq]
  scanning := by simp [hq]
  err_codes := he
  done_no_error := hd

/-- What the invariant asks of a running block whatever its SEQ (10_state.md R16, R30). -/
structure Running (s : State) : Prop where
  grid_wf : Memory.wf s.grid = true
  busy : s.busy = true
  legal : legalSize (side s) = true
  done : s.done = false
  err : s.err = 0#4

theorem ControlInv.running {s : State} (hi : ControlInv s) (hq : s.seq ≠ .idle) : Running s where
  grid_wf := hi.grid_wf
  busy := hi.busy_iff.2 hq
  legal := hi.running_size hq
  done := (hi.running_report hq).1
  err := (hi.running_report hq).2

/-- A block that reads the format (40_format_demux.md R86). -/
theorem ControlInv.of_fmt {s : State} {i : Fin 15} (hr : Running s) (hq : s.seq = .fmt i) (hc : s.cmdl ≠ .scan)
    (hv : s.fmtv = false) : ControlInv s where
  grid_wf := hr.grid_wf
  busy_iff := by simp [hq, hr.busy]
  running_size := fun _ => hr.legal
  running_report := fun _ => ⟨hr.done, hr.err⟩
  format_read := fun _ _ => ⟨hc, hv⟩
  scan_domain := by simp [hq]
  scanning := by simp [hq]
  err_codes := .inl hr.err
  done_no_error := fun _ => hr.err

/-- A block that scans, at a cell of the walk or at its end (43_data_scanner.md R143, 44_control_commands.md R162). -/
theorem ControlInv.of_scanning {s : State} (hr : Running s)
    (hq : (∃ k, s.seq = .scan k ∧ k < visitLength (side s)) ∨ s.seq = .atEnd) (hc : s.cmdl ≠ .fmt)
    (hv : s.cmdl = .run → s.fmtv = true) : ControlInv s where
  grid_wf := hr.grid_wf
  busy_iff := by rcases hq with ⟨k, hq, -⟩ | hq <;> simp [hq, hr.busy]
  running_size := fun _ => hr.legal
  running_report := fun _ => ⟨hr.done, hr.err⟩
  format_read := by rcases hq with ⟨k, hq, -⟩ | hq <;> simp [hq]
  scan_domain := by
    intro j hj
    rcases hq with ⟨k, hq, hk⟩ | hq
    · obtain rfl : k = j := by simpa [hq] using hj
      exact hk
    · simp [hq] at hj
  scanning := fun _ => ⟨hc, hv⟩
  err_codes := .inl hr.err
  done_no_error := fun _ => hr.err

/-- The walk goes on to a cell of the walk or to its end (43_data_scanner.md R144). -/
theorem afterVisit_domain (n k : Nat) :
    (∃ j, afterVisit n k = .scan j ∧ j < visitLength n) ∨ afterVisit n k = .atEnd := by
  rcases afterVisit_cases n k with ⟨hlt, h⟩ | ⟨-, h⟩
  · exact .inl ⟨k + 1, h, hlt⟩
  · exact .inr h

/-! ## The moves keep the control invariant -/

/-- A scan that goes on to its next cell: of the block only BS and COUNT may have changed (43_data_scanner.md R144,
R145). -/
theorem ControlInv.nextCell {s t : State} {k : Nat} (hi : ControlInv s) (hq : s.seq = .scan k)
    (hg : t.grid = s.grid) (hz : t.size = s.size) (hb : t.busy = s.busy) (hd : t.done = s.done) (he : t.err = s.err)
    (hc : t.cmdl = s.cmdl) (hv : t.fmtv = s.fmtv) (ht : t.seq = afterVisit (side s) k) : ControlInv t := by
  have hr : Running s := hi.running (by simp [hq])
  have hside : side t = side s := congrArg BitVec.toNat hz
  obtain ⟨hcmd, hrun⟩ := hi.scanning (.inl ⟨k, hq⟩)
  refine .of_scanning ⟨hg ▸ hr.grid_wf, hb.trans hr.busy, hside ▸ hr.legal, hd.trans hr.done, he.trans hr.err⟩ ?_
    (hc ▸ hcmd) (hc ▸ hv ▸ hrun)
  rw [ht, hside]
  exact afterVisit_domain _ _

/-- Every acceptance of a command keeps the control invariant (44_control_commands.md R161). -/
theorem ControlInv.accept {i : Instr} {s t : State} (hi : ControlInv s) (hb : s.busy = false)
    (h : exec i s = .next t) : ControlInv t := by
  have hq := hi.seq_of_idle hb
  rcases exec_next h with ⟨-, rfl⟩ | ⟨-, -, rfl⟩ | ⟨-, hl, rfl⟩ | ⟨-, hl, rfl⟩ | ⟨-, hl, rfl⟩ | ⟨-, -, -, rfl⟩ |
    ⟨-, -, -, -, rfl⟩
  · exact hi
  · exact .of_idle hi.grid_wf hq hb (by simp [errorCode]) (by simp)
  · exact .of_fmt ⟨hi.grid_wf, rfl, hl, rfl, rfl⟩ rfl (by simp) rfl
  · exact .of_scanning ⟨hi.grid_wf, rfl, hl, rfl, rfl⟩
      (.inl ⟨0, rfl, visitLength_pos ((legalSize_iff_legalSide _).1 hl)⟩) (by simp) (by simp)
  · exact .of_fmt ⟨hi.grid_wf, rfl, hl, rfl, rfl⟩ rfl (by simp) rfl
  · exact .of_idle hi.grid_wf hq hb (by simp [errorCode]) (by simp)
  · exact .of_idle hi.grid_wf hq hb (by simp) (by simp)

/-- Every move keeps the control invariant. -/
theorem ControlInv.move {s t : State} (hi : ControlInv s) (hm : Move s t) : ControlInv t := by
  cases hm with
  | stay => exact hi
  | collect hq hlt hr =>
    have hrun := hi.running (by simp [hq])
    obtain ⟨hc, hv⟩ := hi.format_read _ hq
    exact .of_fmt ⟨hrun.grid_wf, hrun.busy, hrun.legal, hrun.done, hrun.err⟩ rfl hc hv
  | completeFmt hq hc =>
    have hrun := hi.running (by simp [hq])
    exact .of_idle hrun.grid_wf rfl rfl (.inl hrun.err) fun _ => hrun.err
  | completeRun hq hc =>
    have hrun := hi.running (by simp [hq])
    exact .of_scanning ⟨hrun.grid_wf, hrun.busy, hrun.legal, hrun.done, hrun.err⟩
      (.inl ⟨0, rfl, visitLength_pos ((legalSize_iff_legalSide _).1 hrun.legal)⟩)
      (by simp [publishRead, hc]) fun _ => rfl
  | skip hq hk hs => exact hi.nextCell hq rfl rfl rfl rfl rfl rfl rfl rfl
  | noSymbol ho => exact hi.sameBlock (sameBlock_withRet _ _)
  | emit hq hk hs => exact hi.nextCell hq rfl rfl rfl rfl rfl rfl rfl rfl
  | finish hq =>
    have hrun := hi.running (by simp [hq])
    exact .of_idle hrun.grid_wf rfl rfl (.inl hrun.err) fun _ => hrun.err
  | reset => exact .of_idle hi.grid_wf rfl rfl (.inl rfl) fun _ => rfl
  | read n => exact hi.sameBlock (sameBlock_withRet _ _)
  | writeReg n v hb =>
    have hq := hi.seq_of_idle hb
    rcases writeReg_cases n v s with h | ⟨x, h⟩ | ⟨x, h⟩ | ⟨x, h⟩ | ⟨x, h⟩ <;> rw [h]
    · exact hi
    all_goals exact .of_idle hi.grid_wf hq hb hi.err_codes hi.done_no_error
  | writeCell r c b hb =>
    have hgrid := writeCell_wf r c b hi.grid_wf
    have hq := hi.seq_of_idle hb
    rcases writeCell_cases r c b s with h | ⟨-, h⟩ <;> rw [h] at hgrid ⊢
    · exact hi
    · exact .of_idle hgrid hq hb hi.err_codes hi.done_no_error
  | illegal hb => exact .of_idle hi.grid_wf (hi.seq_of_idle hb) hb (by simp [errorCode]) (by simp)
  | command i hb he => exact hi.accept hb he

/-- Settles O54: a step is one move but for what the model keeps for the host, and every move keeps the invariant. -/
theorem controlInvKept : Obligations.ControlInvKept := by
  intro s t hi h
  obtain ⟨u, v, hsu, hm, hvt⟩ := step_move h
  exact ((hi.sameBlock hsu).move hm).sameBlock hvt

end Sys2Proof.Machine
end

section
/-! The register invariant, move by move. -/

namespace Sys2Proof.Machine

/-! ## Un-masking as an exclusive or of registers (40_format_demux.md R89) -/

/-- The key, last element first, is the number 0x5412, bit 0 first. -/
theorem keyBits_reverse : keyBits.reverse = bitsLow 0x5412#15 := by decide

/-- The exclusive or of two registers, bit by bit. -/
theorem packLow_zipWith_xor {w : Nat} (x y : BitVec w) :
    packLow w (List.zipWith (fun a b => a ^^ b) (bitsLow x) (bitsLow y)) = x ^^^ y := by
  apply BitVec.eq_of_getLsbD_eq
  intro i hi
  rw [getLsbD_packLow _ hi, BitVec.getLsbD_xor]
  simp [bitsLow, hi]

/-- 40_format_demux.md R89: the un-masked field as a number. -/
theorem packHigh_unmask (x : FormatWord) : packHigh 15 (unmask (bitsLow x)) = x ^^^ 0x5412#15 := by
  have hlen : (bitsLow x).reverse.length = keyBits.length := by simp [keyBits]
  rw [packHigh, unmask, List.reverse_zipWith hlen, List.reverse_reverse, keyBits_reverse, packLow_zipWith_xor]

/-! ## How the result registers may change -/

/-- A scan runs: SEQ is at a cell of the walk or at its end (10_state.md R27). -/
def scanRuns (s : State) : Prop := (∃ k, s.seq = .scan k) ∨ s.seq = .atEnd

/-- A step that leaves BS, COUNT, PRES and the format words, sets no FMTV and begins no scan. -/
theorem RegisterInv.of_results_eq {s t : State} (hi : RegisterInv s) (hbs : t.bs = s.bs) (hn : t.count = s.count)
    (hp : t.pres = s.pres) (hraw : t.fmtraw = s.fmtraw) (hinfo : t.fmtinfo = s.fmtinfo)
    (hv : t.fmtv = true → s.fmtv = true) (hq : scanRuns t → scanRuns s) : RegisterInv t where
  count_bits := by rw [hbs, hn]; exact hi.count_bits
  format_words := fun h => by rw [hraw, hinfo]; exact hi.format_words (hv h)
  probe_bit := by rw [hp]; exact hi.probe_bit
  sentinel_last := by rw [hbs]; exact hi.sentinel_last
  sentinel_not_yet := fun h => by rw [hbs]; exact hi.sentinel_not_yet (hq h)

/-- The completion of a format read publishes words that agree (40_format_demux.md R88, R89). -/
theorem RegisterInv.after_publishRead {s : State} (hi : RegisterInv s) : RegisterInv (publishRead s) where
  count_bits := hi.count_bits
  format_words := fun _ => packHigh_unmask s.rawsh
  probe_bit := hi.probe_bit
  sentinel_last := hi.sentinel_last
  sentinel_not_yet := hi.sentinel_not_yet

/-- A scan begins with an empty BS and COUNT 0 (43_data_scanner.md R143). -/
theorem RegisterInv.after_beginScan {s : State} (hi : RegisterInv s) : RegisterInv (beginScan s) where
  count_bits := rfl
  format_words := hi.format_words
  probe_bit := hi.probe_bit
  sentinel_last := by simp
  sentinel_not_yet := by simp

/-- A data bit crosses the stream port: BS and COUNT grow together (43_data_scanner.md R145). -/
theorem RegisterInv.after_emitData {s : State} (hi : RegisterInv s) (hq : scanRuns s) (b : Bool) (q : SeqState) :
    RegisterInv (withSeq q (countBit (emitSymbol (.data b) s))) where
  count_bits := by
    have hbits : (dataBits (s.bs ++ [.data b])).length = (dataBits s.bs).length + 1 := by
      simp [dataBits_append, dataBits]
    simp [hbits, hi.count_bits, BitVec.ofNat_add]
  format_words := hi.format_words
  probe_bit := hi.probe_bit
  sentinel_last := by simpa using hi.sentinel_not_yet hq
  sentinel_not_yet := fun _ => by simpa using hi.sentinel_not_yet hq

/-- The sentinel crosses the stream port and ends the scan; it is no data bit (43_data_scanner.md R147). -/
theorem RegisterInv.after_emitSentinel {s : State} (hi : RegisterInv s) (hq : scanRuns s) :
    RegisterInv (endCommand (emitSymbol .sentinel s)) where
  count_bits := by simp [dataBits_append, dataBits, hi.count_bits]
  format_words := hi.format_words
  probe_bit := hi.probe_bit
  sentinel_last := by simpa using hi.sentinel_not_yet hq
  sentinel_not_yet := by simp

/-- Reset clears every result register (70_reset_and_hazards.md R230). -/
theorem registerInv_resetBlock (s : State) : RegisterInv (resetBlock s) where
  count_bits := rfl
  format_words := by simp
  probe_bit := by simp
  sentinel_last := by simp
  sentinel_not_yet := by simp

/-- PROBE writes a PRES whose BIT is the exclusive or of MOD and INV (10_state.md R24). -/
theorem RegisterInv.after_probe {s : State} (hi : RegisterInv s) (md func inv : Bool) :
    RegisterInv (setDone (withPres (probeWord md func inv) (clearReport s))) where
  count_bits := hi.count_bits
  format_words := hi.format_words
  probe_bit := by
    obtain ⟨hmod, -, hinv, hbit⟩ := probeWord_bits md func inv
    simp only [setDone_pres, withPres_pres, hmod, hinv, hbit]
  sentinel_last := hi.sentinel_last
  sentinel_not_yet := hi.sentinel_not_yet

/-! ## The moves keep the register invariant -/

/-- Every acceptance of a command keeps the register invariant (44_control_commands.md R161). -/
theorem RegisterInv.accept {i : Instr} {s t : State} (hi : RegisterInv s) (h : exec i s = .next t) :
    RegisterInv t := by
  rcases exec_next h with ⟨-, rfl⟩ | ⟨-, -, rfl⟩ | ⟨-, -, rfl⟩ | ⟨-, -, rfl⟩ | ⟨-, -, rfl⟩ | ⟨-, -, -, rfl⟩ |
    ⟨-, -, -, -, rfl⟩
  · exact hi
  · exact hi.of_results_eq rfl rfl rfl rfl rfl id id
  · exact hi.of_results_eq rfl rfl rfl rfl rfl (by simp) (by simp [scanRuns])
  · exact (hi.of_results_eq rfl rfl rfl rfl rfl id id : RegisterInv (latchCommand .scan (clearReport s))).after_beginScan
  · exact hi.of_results_eq rfl rfl rfl rfl rfl (by simp) (by simp [scanRuns])
  · exact hi.of_results_eq rfl rfl rfl rfl rfl id id
  · exact hi.after_probe _ _ _

/-- Every move keeps the register invariant. -/
theorem RegisterInv.move {s t : State} (hi : RegisterInv s) (hm : Move s t) : RegisterInv t := by
  have rawBit (b : Bool) : RegisterInv (withRawBit 14 b s) := hi.of_results_eq rfl rfl rfl rfl rfl id id
  cases hm with
  | stay => exact hi
  | collect hq hlt hr => exact hi.of_results_eq rfl rfl rfl rfl rfl id (by simp [scanRuns])
  | completeFmt hq hc => exact (rawBit _).after_publishRead.of_results_eq rfl rfl rfl rfl rfl id (by simp [scanRuns])
  | completeRun hq hc => exact (rawBit _).after_publishRead.after_beginScan
  | skip hq hk hs => exact hi.of_results_eq rfl rfl rfl rfl rfl id fun _ => .inl ⟨_, hq⟩
  | noSymbol ho => exact hi.sameBlock (sameBlock_withRet _ _)
  | emit hq hk hs => exact hi.after_emitData (.inl ⟨_, hq⟩) _ _
  | finish hq => exact hi.after_emitSentinel (.inr hq)
  | reset => exact registerInv_resetBlock s
  | read n => exact hi.sameBlock (sameBlock_withRet _ _)
  | writeReg n v hb =>
    rcases writeReg_cases n v s with h | ⟨x, h⟩ | ⟨x, h⟩ | ⟨x, h⟩ | ⟨x, h⟩ <;> rw [h]
    · exact hi
    all_goals exact hi.of_results_eq rfl rfl rfl rfl rfl id id
  | writeCell r c b hb =>
    rcases writeCell_cases r c b s with h | ⟨-, h⟩ <;> rw [h]
    · exact hi
    · exact hi.of_results_eq rfl rfl rfl rfl rfl id id
  | illegal hb => exact hi.of_results_eq rfl rfl rfl rfl rfl id id
  | command i hb he => exact hi.accept he

/-- Settles O56: a step is one move but for what the model keeps for the host, and every move keeps the invariant. -/
theorem registerInvKept : Obligations.RegisterInvKept := by
  intro s t _ hi h
  obtain ⟨u, v, hsu, hm, hvt⟩ := step_move h
  exact ((hi.sameBlock hsu).move hm).sameBlock hvt

end Sys2Proof.Machine
end

section
/-! How many bits a scan emits: the data cells of the walk, counted column by column. -/

namespace Sys2Proof.Machine

/-! ## The walk as a sum over its columns -/

/-- How many data cells column `c` of a grid with side `n` has (42_function_pattern_classifier.md R121). -/
def dataRows (n c : Nat) : Nat := (List.range n).countP fun r => !isFunctionPattern n n r c

/-- How many data cells the pair of columns at `col` has (43_data_scanner.md R136). -/
def pairData (n col : Nat) : Nat := dataRows n col + dataRows n (col - 1)

/-- A column is walked upward or downward, over the same rows (43_data_scanner.md R138). -/
theorem rowsOf_perm (n col : Nat) : (rowsOf n col).Perm (List.range n) := by
  unfold rowsOf
  split
  · exact List.reverse_perm _
  · exact .refl _

/-- The cells of two columns, row by row, are those of the first and those of the second. -/
theorem countP_columnPair (p : Nat × Nat → Bool) (c d : Nat) (rows : List Nat) :
    (rows.flatMap fun row => [(row, c), (row, d)]).countP p =
      rows.countP (fun row => p (row, c)) + rows.countP fun row => p (row, d) := by
  induction rows with
  | nil => rfl
  | cons row rows ih =>
    rw [List.flatMap_cons, List.countP_append, ih]
    simp only [List.countP_cons, List.countP_nil]
    omega

/-- `order(N)` holds the data cells of the two columns of each pair (43_data_scanner.md R142). -/
theorem order_length_eq_sum (n : Nat) :
    (order n).length = ((colseq n).map (pairData n)).sum := by
  unfold order visit
  rw [← List.countP_eq_length_filter, List.countP_flatMap]
  congr 2
  funext col
  simp only [Function.comp_apply, countP_columnPair, isSkipped, pairData, dataRows]
  exact congrArg₂ _ ((rowsOf_perm n col).countP_eq _) ((rowsOf_perm n col).countP_eq _)

/-! ## The column loop (43_data_scanner.md R136) -/

/-- From an even column `8 + 2j` the loop takes the even columns down to 8, then 5 and 3. -/
theorem colLoop_even (j : Nat) {fuel : Nat} (hf : j + 3 ≤ fuel) :
    colLoop fuel (8 + 2 * j) = (List.range (j + 1)).map (fun p => 8 + 2 * j - 2 * p) ++ [5, 3] := by
  induction j generalizing fuel with
  | zero =>
    obtain ⟨f, rfl⟩ := Nat.exists_eq_add_of_le' hf
    cases f <;> simp [colLoop, nextCol]
  | succ j ih =>
    obtain ⟨f, rfl⟩ := Nat.exists_eq_add_of_le' hf
    have hnext : nextCol (8 + 2 * (j + 1)) = 8 + 2 * j := by
      unfold nextCol
      split <;> omega
    have hstep : colLoop (f + (j + 1 + 3)) (8 + 2 * (j + 1)) =
        (8 + 2 * (j + 1)) :: colLoop (f + (j + 3)) (8 + 2 * j) := by
      rw [← hnext]
      exact if_pos (by omega)
    rw [hstep, ih (by omega), List.range_succ_eq_map (n := j + 1)]
    simp only [List.map_cons, List.map_map, List.cons_append, Nat.mul_zero, Nat.sub_zero]
    congr 2
    refine List.map_congr_left fun p _ => ?_
    simp only [Function.comp_apply]
    omega

/-- 43_data_scanner.md R136: `colseq(N)` is `N-1, N-3, ..., 10, 8, 5, 3`. -/
theorem colseq_eq {n : Nat} (h : LegalSide n) :
    colseq n = (List.range ((n - 9) / 2 + 1)).map (fun p => n - 1 - 2 * p) ++ [5, 3] := by
  obtain ⟨hlo, -, hmod⟩ := h
  have hn : n - 1 = 8 + 2 * ((n - 9) / 2) := by omega
  rw [colseq, hn, colLoop_even _ (by omega)]

/-! ## The data cells of a column (42_function_pattern_classifier.md R121) -/

/-- How many of the first `n` numbers lie below `a`, from `b` to `c`, or from `d` on. -/
theorem countP_range_gaps {p : Nat → Bool} {n a b c d : Nat}
    (hp : ∀ r < n, p r = true ↔ r < a ∨ (b ≤ r ∧ r < c) ∨ d ≤ r) (hab : a ≤ b) (hbc : b ≤ c) (hcd : c ≤ d)
    (hdn : d ≤ n) : (List.range n).countP p = a + (c - b) + (n - d) := by
  have partial_count : ∀ m ≤ n, (List.range m).countP p = min m a + (min m c - b) + (m - d) := by
    intro m hm
    induction m with
    | zero => simp
    | succ m ih =>
      rw [List.range_succ, List.countP_append, ih (by omega), List.countP_singleton]
      simp only [hp m hm]
      split <;> omega
  rw [partial_count n le_rfl]
  omega

/-- The cell is a data cell when none of the five tests holds. -/
theorem not_isFunctionPattern_iff (n r c : Nat) :
    (!isFunctionPattern n n r c) = true ↔
      ¬ (n ≤ c + 8 ∧ r ≤ 8) ∧ ¬ (n ≤ c + 9 ∧ c + 5 ≤ n ∧ n ≤ r + 9 ∧ r + 5 ≤ n) ∧ r ≠ 6 ∧ c ≠ 6 ∧
      ¬ (c ≤ 8 ∧ r ≤ 8) ∧ ¬ (c ≤ 8 ∧ n ≤ r + 7) := by
  simp only [isFunctionPattern, inTopRight, inAlignmentBox, onTiming, inTopLeft, inBottomLeft, Bool.not_eq_true',
    Bool.or_eq_false_iff, Bool.and_eq_false_iff, decide_eq_false_iff_not, beq_eq_false_iff_ne]
  omega

section Columns

variable {n c : Nat}

/-- A column of the left finders. -/
theorem dataRows_left (hn : 21 ≤ n) (hc : c ≤ 8) (h6 : c ≠ 6) : dataRows n c = n - 16 := by
  have rows : ∀ r < n, (!isFunctionPattern n n r c) = true ↔ r < 0 ∨ (9 ≤ r ∧ r < n - 7) ∨ n ≤ r := by
    intro r hr
    rw [not_isFunctionPattern_iff]
    omega
  rw [dataRows, countP_range_gaps rows] <;> omega

/-- A column between the finders and the alignment box: only the timing row is no data. -/
theorem dataRows_middle (hc : 9 ≤ c) (hcn : c + 10 ≤ n) : dataRows n c = n - 1 := by
  have rows : ∀ r < n, (!isFunctionPattern n n r c) = true ↔ r < 6 ∨ (7 ≤ r ∧ r < n) ∨ n ≤ r := by
    intro r hr
    rw [not_isFunctionPattern_iff]
    omega
  rw [dataRows, countP_range_gaps rows] <;> omega

/-- The column of the alignment box that the top right finder does not reach. -/
theorem dataRows_box_first (hn : 21 ≤ n) (hc : c + 9 = n) : dataRows n c = n - 6 := by
  have rows : ∀ r < n, (!isFunctionPattern n n r c) = true ↔ r < 6 ∨ (7 ≤ r ∧ r < n - 9) ∨ n - 4 ≤ r := by
    intro r hr
    rw [not_isFunctionPattern_iff]
    omega
  rw [dataRows, countP_range_gaps rows] <;> omega

/-- A column of both the alignment box and the top right finder. -/
theorem dataRows_box (hn : 21 ≤ n) (hlo : n ≤ c + 8) (hhi : c + 5 ≤ n) : dataRows n c = n - 14 := by
  have rows : ∀ r < n, (!isFunctionPattern n n r c) = true ↔ r < 0 ∨ (9 ≤ r ∧ r < n - 9) ∨ n - 4 ≤ r := by
    intro r hr
    rw [not_isFunctionPattern_iff]
    omega
  rw [dataRows, countP_range_gaps rows] <;> omega

/-- A column right of the alignment box. -/
theorem dataRows_right (hn : 21 ≤ n) (hlo : n ≤ c + 4) (hhi : c < n) : dataRows n c = n - 9 := by
  have rows : ∀ r < n, (!isFunctionPattern n n r c) = true ↔ r < 0 ∨ (9 ≤ r ∧ r < n) ∨ n ≤ r := by
    intro r hr
    rw [not_isFunctionPattern_iff]
    omega
  rw [dataRows, countP_range_gaps rows] <;> omega

end Columns

/-! ## The data cells of a pair of columns, and their sum -/

section Pairs

variable {n col : Nat}

/-- A pair of columns of the left finders. -/
theorem pairData_left (hn : 21 ≤ n) (hcol : col ≤ 8) (h6 : col ≠ 6) (h7 : col - 1 ≠ 6) :
    pairData n col = 2 * (n - 16) := by
  rw [pairData, dataRows_left hn hcol h6, dataRows_left hn (by omega) h7, Nat.two_mul]

/-- A pair between the alignment box and column 8. -/
theorem pairData_middle (hlo : 10 ≤ col) (hhi : col + 10 ≤ n) : pairData n col = 2 * (n - 1) := by
  rw [pairData, dataRows_middle (by omega) hhi, dataRows_middle (by omega) (by omega), Nat.two_mul]

/-- The pair at the left side of the alignment box. -/
theorem pairData_box_first (hn : 21 ≤ n) (hcol : col + 9 = n) : pairData n col = (n - 6) + (n - 1) := by
  rw [pairData, dataRows_box_first hn hcol, dataRows_middle (by omega) (by omega)]

/-- A pair of both the alignment box and the top right finder. -/
theorem pairData_box (hn : 21 ≤ n) (hlo : n ≤ col + 7) (hhi : col + 5 ≤ n) : pairData n col = 2 * (n - 14) := by
  rw [pairData, dataRows_box hn (by omega) hhi, dataRows_box hn (by omega) (by omega), Nat.two_mul]

/-- A pair right of the alignment box. -/
theorem pairData_right (hn : 21 ≤ n) (hlo : n ≤ col + 3) (hhi : col < n) : pairData n col = 2 * (n - 9) := by
  rw [pairData, dataRows_right hn (by omega) hhi, dataRows_right hn (by omega) (by omega), Nat.two_mul]

/-- The five pairs of the top right finder and the alignment box. -/
theorem sum_pairData_first_five (hn : 21 ≤ n) :
    ((List.range 5).map fun p => pairData n (n - 1 - 2 * p)).sum = 10 * n - 99 := by
  have h0 := pairData_right hn (col := n - 1 - 2 * 0) (by omega) (by omega)
  have h1 := pairData_right hn (col := n - 1 - 2 * 1) (by omega) (by omega)
  have h2 := pairData_box hn (col := n - 1 - 2 * 2) (by omega) (by omega)
  have h3 := pairData_box hn (col := n - 1 - 2 * 3) (by omega) (by omega)
  have h4 := pairData_box_first hn (col := n - 1 - 2 * 4) (by omega)
  rw [show List.range 5 = [0, 1, 2, 3, 4] from rfl]
  simp only [List.map_cons, List.map_nil, List.sum_cons, List.sum_nil, h0, h1, h2, h3, h4]
  omega

/-- The first pairs, down to one between the alignment box and column 8. -/
theorem sum_pairData_first {q : Nat} (hn : 21 ≤ n) (hq : 2 * (5 + q) + 9 ≤ n) :
    ((List.range (5 + q)).map fun p => pairData n (n - 1 - 2 * p)).sum = 10 * n - 99 + q * (2 * (n - 1)) := by
  induction q with
  | zero => rw [Nat.zero_mul]; exact sum_pairData_first_five hn
  | succ q ih =>
    have hpair := pairData_middle (n := n) (col := n - 1 - 2 * (5 + q)) (by omega) (by omega)
    rw [← Nat.add_assoc, List.range_succ, List.map_append, List.sum_append, ih (by omega), List.map_singleton,
      List.sum_singleton, hpair, Nat.succ_mul q, Nat.add_assoc]

end Pairs

/-- 43_data_scanner.md R150: the pairs of `colseq(N)` summed up. -/
theorem order_length {n : Nat} (h : LegalSide n) : (order n).length = n * n - 4 * n - 176 := by
  have hcols := colseq_eq h
  obtain ⟨hn, -, hmod⟩ := h
  obtain ⟨q, rfl⟩ : ∃ q, n = 2 * q + 19 := ⟨(n - 19) / 2, by omega⟩
  have hpairs : (2 * q + 19 - 9) / 2 + 1 = 5 + q + 1 := by omega
  have height : 2 * q + 19 - 1 - 2 * (5 + q) = 8 := by omega
  have hmiddle := sum_pairData_first (q := q) hn (by omega)
  have h8 := pairData_left hn (col := 8) (by decide) (by decide) (by decide)
  have h5 := pairData_left hn (col := 5) (by decide) (by decide) (by decide)
  have h3 := pairData_left hn (col := 3) (by decide) (by decide) (by decide)
  have hsquare : (2 * q + 19) * (2 * q + 19) = 4 * (q * q) + 76 * q + 361 := by ring
  have hrest : q * (2 * (2 * q + 19 - 1)) = 4 * (q * q) + 36 * q := by
    rw [show 2 * q + 19 - 1 = 2 * q + 18 from rfl]
    ring
  rw [order_length_eq_sum, hcols, hpairs, List.range_succ]
  simp only [List.map_append, List.map_map, List.sum_append, List.map_cons, List.map_nil, List.sum_cons,
    List.sum_nil, Function.comp_def, height, hmiddle, h8, h5, h3]
  omega

/-- 10_state.md R21: COUNT does not overflow, since the side is at most 253. -/
theorem order_length_le {n : Nat} (h : LegalSide n) : (order n).length ≤ 62821 := by
  have hn : 21 ≤ n := h.1
  have hmax : n ≤ 253 := h.2.1.trans Config.NMAX_bounds.2.1
  have hprod : n * n - 4 * n ≤ 249 * 253 := calc
    n * n - 4 * n = (n - 4) * n := (Nat.sub_mul n 4 n).symm
    _ ≤ 249 * 253 := Nat.mul_le_mul (by omega) hmax
  rw [order_length h]
  omega

/-- Settles O33: the data cells of the walk, column by column. -/
theorem orderLength : Obligations.OrderLength := fun _ h => ⟨order_length h, order_length_le h⟩

end Sys2Proof.Machine
end

section
/-! What a step leaves of the grid store and of the operands. -/

namespace Sys2Proof.Machine

/-! ## Frames of the turns -/

/-- The grid, SIZE, PROW, PCOL and PRES are the same in both states (10_state.md R12, R30). -/
structure SameOperands (s t : State) : Prop where
  grid : t.grid = s.grid
  size : t.size = s.size
  prow : t.prow = s.prow
  pcol : t.pcol = s.pcol
  pres : t.pres = s.pres

/-- A sequencer turn reads the operands and writes none of them; MASK changes only when it completes a format read
(20_memory.md R51, 40_format_demux.md R88). -/
theorem sequencerTurn_frame {s t : State} (h : sequencerTurn s = .next t) :
    SameOperands s t ∧ (t.mask ≠ s.mask → s.seq = .fmt 14 ∧ t.fmtv = true) := by
  unfold sequencerTurn at h
  split at h
  case h_1 | h_4 =>
    cases h
    exact ⟨⟨rfl, rfl, rfl, rfl, rfl⟩, fun hm => absurd rfl hm⟩
  case h_2 i hq =>
    obtain ⟨-, ⟨hi, rfl⟩ | ⟨h14, -, rfl⟩ | ⟨h14, -, rfl⟩⟩ := formatStep_next h
    · exact ⟨⟨rfl, rfl, rfl, rfl, rfl⟩, fun hm => absurd rfl hm⟩
    all_goals exact ⟨⟨rfl, rfl, rfl, rfl, rfl⟩, fun _ => ⟨hq.trans (congrArg _ (Fin.ext h14)), rfl⟩⟩
  case h_3 k hq =>
    obtain ⟨-, ⟨-, rfl⟩ | ⟨-, rfl⟩⟩ := scanStep_next h
    all_goals exact ⟨⟨rfl, rfl, rfl, rfl, rfl⟩, fun hm => absurd rfl hm⟩

/-- No command writes the grid when it is accepted (10_state.md R12). -/
theorem exec_grid {i : Instr} {s t : State} (h : exec i s = .next t) : t.grid = s.grid := by
  rcases exec_next h with ⟨-, rfl⟩ | ⟨-, -, rfl⟩ | ⟨-, -, rfl⟩ | ⟨-, -, rfl⟩ | ⟨-, -, rfl⟩ | ⟨-, -, -, rfl⟩ |
    ⟨-, -, -, -, rfl⟩ <;> rfl

/-- No command word writes the grid, illegal words included. -/
theorem issueCommand_grid {w : CommandWord} {s t : State} (h : issueCommand w s = .next t) : t.grid = s.grid := by
  rcases issueCommand_cases h with ⟨i, -, hx⟩ | ⟨-, rfl⟩
  · exact exec_grid hx
  · rfl

/-- No register write touches the grid (10_state.md R14). -/
theorem writeReg_grid (n : RegNum) (v : Word) (s : State) : (writeReg n v s).grid = s.grid := by
  rcases writeReg_cases n v s with h | ⟨x, h⟩ | ⟨x, h⟩ | ⟨x, h⟩ | ⟨x, h⟩ <;> rw [h] <;> rfl

/-- A host turn changes the grid only by a grid write inside the store of an idle block (20_memory.md R46, R47). -/
theorem hostTurn_grid {s t : State} (h : hostTurn s = .next t) :
    t.grid = s.grid ∨
    (s.busy = false ∧ ∃ r c b rest, s.hostq = .op (.gw r c b) :: rest ∧ inStore r.toNat c.toNat = true ∧
      t.grid = gridWrite s.grid r.toNat c.toNat b) := by
  rcases hostTurn_cases h with ⟨q, r, rfl⟩ | ⟨rest, -, rfl⟩ | ⟨q, v, hp, rfl⟩ | ⟨rest, -, hp⟩ |
    ⟨hb, r, c, b, rest, hq, hin, rfl⟩ | ⟨-, n, v, rest, -, -, rfl⟩ | ⟨-, v, rest, -, hc⟩
  · exact .inl rfl
  · exact .inl rfl
  · exact .inl (popStep_frame hp).1
  · exact .inl (popStep_frame hp).1
  · exact .inr ⟨hb, r, c, b, rest, hq, hin, rfl⟩
  · exact .inl (writeReg_grid n v _)
  · exact .inl (issueCommand_grid (s := withRet .nothing (withHostq rest s)) hc)

/-- While BUSY = 1 a host turn other than a reset writes no operand, MASK included (70_reset_and_hazards.md R238). -/
theorem hostTurn_frame_of_busy {s t : State} (hb : s.busy = true) (h : hostTurn s = .next t)
    (hreset : ¬ ∃ rest, s.hostq = .reset :: rest) : SameOperands s t ∧ t.mask = s.mask := by
  have idle_absurd (hidle : s.busy = false) : False := by simp [hb] at hidle
  rcases hostTurn_cases h with ⟨q, r, rfl⟩ | ⟨rest, hq, -⟩ | ⟨q, v, hp, rfl⟩ | ⟨rest, -, hp⟩ | ⟨hidle, -⟩ |
    ⟨hidle, -⟩ | ⟨hidle, -⟩
  · exact ⟨⟨rfl, rfl, rfl, rfl, rfl⟩, rfl⟩
  · exact absurd ⟨rest, hq⟩ hreset
  · obtain ⟨hg, hz, hr, hc, hp, hm, -⟩ := popStep_frame hp
    exact ⟨⟨hg, hz, hr, hc, hp⟩, hm⟩
  · obtain ⟨hg, hz, hr, hc, hp, hm, -⟩ := popStep_frame hp
    exact ⟨⟨hg, hz, hr, hc, hp⟩, hm⟩
  all_goals exact (idle_absurd hidle).elim

/-! ## The statements -/

/-- Settles O51: of the two agents' turns only the host's writes the grid, and only by its grid write. -/
theorem gridChangesOnlyByGridWrite : Obligations.GridChangesOnlyByGridWrite := by
  intro s t h hne
  rcases step_cases h with ⟨-, hs⟩ | ⟨hn, hh⟩
  · exact absurd (sequencerTurn_frame hs).1.grid hne
  · rcases hostTurn_grid hh with hg | ⟨hb, r, c, b, rest, hq, hin, hg⟩
    · exact absurd hg hne
    · obtain ⟨hr, hc⟩ := (inStore_iff _ _).1 hin
      exact ⟨hb, hn, r, c, b, rest, hq, hr, hc, hg⟩

/-- Settles O52: the sequencer's turn and a busy block's host turn each keep the operands. -/
theorem operandsConstantWhileBusy : Obligations.OperandsConstantWhileBusy := by
  intro s t hb h hreset
  rcases step_cases h with ⟨-, hs⟩ | ⟨hn, hh⟩
  · obtain ⟨⟨hg, hz, hr, hc, hp⟩, hm⟩ := sequencerTurn_frame hs
    exact ⟨hg, hz, hr, hc, hp, hm⟩
  · obtain ⟨⟨hg, hz, hr, hc, hp⟩, hm⟩ := hostTurn_frame_of_busy (s := dropTurn s) hb hh fun hq => hreset ⟨hn, hq⟩
    exact ⟨hg, hz, hr, hc, hp, fun hne => absurd hm hne⟩

end Sys2Proof.Machine
end

section
/-! The register file, the host's turns, PROBE and reset. -/

namespace Sys2Proof.Machine

/-! ## The host's turn for one operation (20_memory.md R40) -/

/-- When the host moves next and its next line is an operation, the step performs it. -/
theorem step_of_hostOp {s : State} {o : HostOp} {rest : List HostLine} (hn : nextAgent s = .host)
    (hq : s.hostq = .op o :: rest) : step s = performOp o (withHostq rest (dropTurn s)) := by
  have hq' : (dropTurn s).hostq = .op o :: rest := hq
  simp only [step, takeTurn, hn, hostTurn, hq']

/-- The state in which a write of the host's next line takes effect: the turn and the line are used up, and a write
returns nothing (logs 4, 5, 6). -/
def lineDone (rest : List HostLine) (s : State) : State := withRet .nothing (withHostq rest (dropTurn s))

/-- `lineDone` field by field: of the block it changes nothing. -/
theorem lineDone_eq (rest : List HostLine) (s : State) :
    lineDone rest s = { s with hostq := rest, turns := s.turns.tail, ret := .nothing } := rfl

/-- The step of a host whose next line is a register write. -/
theorem step_of_wr {s : State} {n : RegNum} {v : Word} {rest : List HostLine} (hn : nextAgent s = .host)
    (hq : s.hostq = .op (.wr n v) :: rest) : step s = hostWrite n v (lineDone rest s) :=
  step_of_hostOp hn hq

/-- The step of a host whose next line is a grid write. -/
theorem step_of_gw {s : State} {r c : Coord} {b : Bool} {rest : List HostLine} (hn : nextAgent s = .host)
    (hq : s.hostq = .op (.gw r c b) :: rest) : step s = .next (hostGridWrite r c b (lineDone rest s)) :=
  step_of_hostOp hn hq

/-- The block is idle and the number is not CMD's: the write goes to the register file (10_state.md R14). -/
theorem hostWrite_of_idle {s : State} {n : RegNum} (v : Word) (hb : s.busy = false) (hn : n ≠ 0#4) :
    hostWrite n v s = .next (writeReg n v s) := by
  have hname : regName n ≠ .cmd := (by decide : ∀ n : RegNum, n ≠ 0#4 → regName n ≠ .cmd) n hn
  simp [hostWrite, hb, hname]

/-- The block is idle and the number is CMD's: the low 8 bits are a command word (10_state.md R15). -/
theorem hostWrite_cmd_of_idle {s : State} (v : Word) (hb : s.busy = false) :
    hostWrite 0#4 v s = issueCommand (v.setWidth 8) s := by
  simp only [hostWrite, hb, Bool.false_eq_true, if_false]
  exact if_pos rfl

/-- A busy block drops a register write (70_reset_and_hazards.md R238). -/
theorem hostWrite_of_busy {s : State} (n : RegNum) (v : Word) (hb : s.busy = true) : hostWrite n v s = .next s := by
  simp [hostWrite, hb]

/-- A busy block drops a grid write (20_memory.md R47). -/
theorem hostGridWrite_of_busy {s : State} (r c : Coord) (b : Bool) (hb : s.busy = true) :
    hostGridWrite r c b s = s := by
  simp [hostGridWrite, hb]

/-- A word that decodes is run. -/
theorem issueCommand_of_decode {w : CommandWord} {i : Instr} (s : State) (h : decode w = .ok i) :
    issueCommand w s = exec i s := by
  simp only [issueCommand, h]

/-- Settles O5: the write to CMD of an idle block issues its low 8 bits, which decode. -/
theorem stepRunsDecodedCommand : Obligations.StepRunsDecodedCommand := by
  intro s v rest i hn hq hb hd
  rw [← BitVec.setWidth_eq_extractLsb' (by decide)] at hd
  rw [step_of_wr hn hq, hostWrite_cmd_of_idle (s := lineDone rest s) v hb, issueCommand_of_decode _ hd, lineDone_eq]

/-- Settles O7: a register write and a grid write, each dropped. -/
theorem busyBlockDropsWrites : Obligations.BusyBlockDropsWrites := by
  rintro s o rest hn hq hb (⟨n, v, rfl⟩ | ⟨r, c, b, rfl⟩)
  · rw [step_of_wr hn hq, hostWrite_of_busy (s := lineDone rest s) n v hb, lineDone_eq]
  · rw [step_of_gw hn hq, hostGridWrite_of_busy (s := lineDone rest s) r c b hb, lineDone_eq]

/-- Settles O46: a read of any number writes the response and nothing else. -/
theorem readHasNoSideEffect : Obligations.ReadHasNoSideEffect := by
  intro s n rest hn hq
  exact step_of_hostOp hn hq

/-! ## The register file -/

/-- The numbers of the four writable registers (10_state.md R14). -/
theorem regName_writable : ∀ n : RegNum,
    (regName n = .size ↔ n = 2#4) ∧ (regName n = .mask ↔ n = 3#4) ∧ (regName n = .prow ↔ n = 8#4) ∧
    (regName n = .pcol ↔ n = 9#4) := by decide

/-- What each writable register holds after a register write (10_state.md R13, R14). -/
theorem writeReg_eq (n : RegNum) (v : Word) (s : State) :
    writeReg n v s =
      { s with
        size := if n = 2#4 then v.extractLsb' 0 8 else s.size
        mask := if n = 3#4 then v.extractLsb' 0 3 else s.mask
        prow := if n = 8#4 then v.extractLsb' 0 8 else s.prow
        pcol := if n = 9#4 then v.extractLsb' 0 8 else s.pcol } := by
  obtain ⟨hsize, hmask, hprow, hpcol⟩ := regName_writable n
  simp only [← hsize, ← hmask, ← hprow, ← hpcol, ← BitVec.setWidth_eq_extractLsb' (x := v) (w := 8) (by decide),
    ← BitVec.setWidth_eq_extractLsb' (x := v) (w := 3) (by decide)]
  unfold writeReg
  cases regName n <;> rfl

/-- Settles O44: the write goes to the register file, which stores it as `writeReg_eq` says. -/
theorem registerWrites : Obligations.RegisterWrites := by
  intro s n v rest hn hq hb h0
  rw [step_of_wr hn hq, hostWrite_of_idle (s := lineDone rest s) v hb h0, writeReg_eq, lineDone_eq]

/-- The layout of STATUS, for any values of its four fields (10_state.md R16). -/
theorem statusLayout_toNat : ∀ (err : BitVec 4) (fmtv done busy : Bool),
    (0#8 ++ err ++ 0#1 ++ BitVec.ofBool fmtv ++ BitVec.ofBool done ++ BitVec.ofBool busy).toNat =
      busy.toNat + 2 * done.toNat + 4 * fmtv.toNat + 16 * err.toNat := by decide

/-- STATUS by the values of its fields (10_state.md R16). -/
theorem statusWord_toNat (s : State) :
    (statusWord s).toNat = s.busy.toNat + 2 * s.done.toNat + 4 * s.fmtv.toNat + 16 * s.err.toNat :=
  statusLayout_toNat s.err s.fmtv s.done s.busy

/-- Numbers 11 to 15 are reserved (10_state.md R29). -/
theorem regName_reserved : ∀ n : RegNum, 11 ≤ n.toNat → regName n = .reserved := by decide

/-- VERSION for a legal SIZE (10_state.md R22); the largest SIZE gives 59, so 8 bits hold it. -/
theorem readReg_version_legal {s : State} (h : LegalSide s.size.toNat) :
    (readReg s 7#4).toNat = (s.size.toNat - 21) / 4 + 1 := by
  have hz := s.size.isLt
  show ((versionOf s.size).setWidth 16).toNat = _
  rw [versionOf, if_pos ((legalSize_iff_legalSide _).2 h), BitVec.toNat_setWidth, BitVec.toNat_ofNat]
  omega

/-- VERSION for any other SIZE (10_state.md R22). -/
theorem readReg_version_illegal {s : State} (h : ¬ LegalSide s.size.toNat) : readReg s 7#4 = 0#16 := by
  show (versionOf s.size).setWidth 16 = 0#16
  rw [versionOf, legalSize_eq_false h]
  rfl

/-- The reserved numbers read 0 (10_state.md R29). -/
theorem readReg_reserved (s : State) {n : RegNum} (hn : 11 ≤ n.toNat) : readReg s n = 0#16 := by
  simp only [readReg, regName_reserved n hn]

/-- Settles O43: STATUS and VERSION are computed, a narrow register keeps its value when it is widened, and of the other
numbers COUNT reads whole and the rest 0. -/
theorem registerReads : Obligations.RegisterReads := by
  intro s
  have narrow {w : Nat} (x : BitVec w) (hw : w ≤ 16) : (x.setWidth 16).toNat = x.toNat :=
    BitVec.toNat_setWidth_of_le hw
  exact ⟨rfl, statusWord_toNat s, narrow s.size (by decide), narrow s.mask (by decide), narrow s.fmtraw (by decide),
    narrow s.fmtinfo (by decide), rfl, readReg_version_legal, readReg_version_illegal, narrow s.prow (by decide),
    narrow s.pcol (by decide), narrow s.pres (by decide), fun _ => readReg_reserved s⟩

/-- Settles O45: VERSION as it is read, and a write to its number. -/
theorem versionRegister : Obligations.VersionRegister := by
  intro s
  refine ⟨fun h => ?_, readReg_version_illegal, fun _ => rfl⟩
  have hv := readReg_version_legal h
  exact ⟨hv, by omega⟩

/-! ## PROBE -/

/-- What PROBE reports of the cell at PROW and PCOL (44_control_commands.md R164). -/
def probeReport (s : State) : BitVec 4 :=
  probeWord (gridRead s.grid (probeRow s) (probeCol s))
    (isFunctionPattern (side s) (side s) (probeRow s) (probeCol s))
    (shouldInvert s.mask (probeRow s) (probeCol s))

/-- With a legal SIZE and coordinates in the grid PROBE reports the cell (44_control_commands.md R164). -/
theorem exec_probe_of_lt {s : State} (hl : LegalSide (side s)) (hr : probeRow s < side s)
    (hc : probeCol s < side s) :
    exec .probe s = .next (setDone (withPres (probeReport s) (clearReport s))) := by
  rw [exec, execProbe, acceptSized_legal ((legalSize_iff_legalSide _).2 hl)]
  rcases probeCell_cases (clearReport s) with ⟨hout, -⟩ | ⟨-, -, hcell⟩
  · have hin : ¬ (side s ≤ probeRow s ∨ side s ≤ probeCol s) := by omega
    exact absurd hout hin
  · exact hcell

/-- Settles O12: the four bits of what PROBE reports are those of `probeWord`. -/
theorem probeReportsCell : Obligations.ProbeReportsCell := by
  intro s hl hr hc
  obtain ⟨hmod, hfunc, hinv, hbit⟩ : _ ∧ _ ∧ _ ∧ (probeReport s).getLsbD 3 = _ := probeWord_bits _ _ _
  exact ⟨probeReport s, exec_probe_of_lt hl hr hc, hmod, hfunc, hinv, hbit.trans (congrArg₂ _ hmod hinv).symm⟩

/-! ## Reset -/

/-- Settles O48: each field as `State.reset` gives it, and the sixteen register numbers one by one. -/
theorem resetValues : Obligations.ResetValues :=
  ⟨rfl, rfl, rfl, rfl, rfl, rfl, rfl, rfl, rfl, rfl, rfl, rfl, rfl, rfl, rfl, fun _ _ => rfl, by decide⟩

/-- The control invariant holds at reset: the block is idle and its store empty. -/
theorem controlInv_reset : ControlInv State.reset :=
  .of_idle reset_grid_wf rfl rfl (.inl rfl) fun _ => rfl

/-- The register invariant holds at reset: reset of any block gives these registers. -/
theorem registerInv_reset : RegisterInv State.reset := registerInv_resetBlock State.reset

/-- An idle block collects no module, so the format invariant asks nothing. -/
theorem formatInv_of_idle {s : State} (hq : s.seq = .idle) : FormatInv s := by
  simp [FormatInv, hq]

/-- An idle block emits no symbol, so the stream invariant asks nothing. -/
theorem streamInv_of_idle {s : State} (hq : s.seq = .idle) : StreamInv s where
  at_scan := by simp [hq]
  at_end := by simp [hq]

/-- Settles O53: the format and the stream invariant ask nothing of an idle block. -/
theorem invariantsAtReset : Obligations.InvariantsAtReset :=
  ⟨controlInv_reset, registerInv_reset, formatInv_of_idle rfl, streamInv_of_idle rfl⟩

end Sys2Proof.Machine
end

section
/-! Progress: from a state that meets the control invariant every turn of either agent answers a next state. -/

namespace Sys2Proof.Machine

/-- A command runs only with a legal SIZE (60_exceptions.md R203). -/
theorem ControlInv.legalSide {s : State} (hi : ControlInv s) (hq : s.seq ≠ .idle) : LegalSide (side s) :=
  (legalSize_iff_legalSide _).1 (hi.running_size hq)

/-! ## The sequencer's turn (20_memory.md R45, 40_format_demux.md R92) -/

/-- A format read that FMT or RUN began completes (40_format_demux.md R88). -/
theorem completeFormat_completes {s : State} (hc : s.cmdl ≠ .scan) : ∃ t, completeFormat s = .next t := by
  unfold completeFormat
  cases h : s.cmdl with
  | fmt => exact ⟨_, rfl⟩
  | run => exact ⟨_, rfl⟩
  | scan => exact absurd h hc

/-- Every collection step of FMT and RUN reads inside the grid and goes on (40_format_demux.md R92). -/
theorem formatStep_completes {s : State} (i : Fin 15) (hl : LegalSide (side s)) (hc : s.cmdl ≠ .scan) :
    ∃ t, formatStep i s = .next t := by
  simp only [formatStep, memRead_formatRow hl i.isLt]
  split
  · exact ⟨_, rfl⟩
  · exact completeFormat_completes hc

/-- Inside the walk the sequencer skips its cell or waits at it (43_data_scanner.md R144, R146). -/
theorem scanStep_completes {s : State} {k : Nat} (hk : k < visitLength (side s)) : ∃ t, scanStep k s = .next t := by
  rw [scanStep, if_pos hk]
  split <;> exact ⟨_, rfl⟩

/-- The invariant keeps every sequencer turn in the domain of SEQ (10_state.md R27). -/
theorem ControlInv.sequencerTurn_completes {s : State} (hi : ControlInv s) : ∃ t, sequencerTurn s = .next t := by
  unfold sequencerTurn
  cases hq : s.seq with
  | idle => exact ⟨_, rfl⟩
  | fmt i => exact formatStep_completes i (hi.legalSide (by simp [hq])) (hi.format_read i hq).1
  | scan k => exact scanStep_completes (hi.scan_domain k hq)
  | atEnd => exact ⟨_, rfl⟩

/-! ## The host's turn (20_memory.md R45, 43_data_scanner.md R143) -/

/-- The cell a scan offers lies in the grid, so what the stream port offers is always defined. -/
theorem ControlInv.offered_ok {s : State} (hi : ControlInv s) : ∃ x, offered s = .ok x := by
  unfold offered
  cases hq : s.seq with
  | idle | fmt _ | atEnd => exact ⟨_, rfl⟩
  | scan k =>
    have hk := hi.scan_domain k hq
    obtain ⟨hrow, hcol⟩ := visitAt_lt (hi.legalSide (by simp [hq])) hk
    simp only [if_pos hk, memRead_of_lt hrow hcol]
    split <;> exact ⟨_, rfl⟩

/-- So a `POP` answers (43_data_scanner.md R146). -/
theorem ControlInv.popStep_completes {s : State} (hi : ControlInv s) : ∃ t, popStep s = .next t := by
  obtain ⟨x, hx⟩ := hi.offered_ok
  unfold popStep
  rw [hx]
  cases x <;> exact ⟨_, rfl⟩

/-- Every command word is accepted, an illegal one included (60_exceptions.md R200, R202). -/
theorem issueCommand_completes (w : CommandWord) (s : State) : ∃ t, issueCommand w s = .next t := by
  unfold issueCommand
  split
  · exact exec_completes _ s
  · exact ⟨_, rfl⟩

/-- Every register write answers, in any state (20_memory.md R40). -/
theorem hostWrite_completes (n : RegNum) (v : Word) (s : State) : ∃ t, hostWrite n v s = .next t := by
  unfold hostWrite
  split
  · exact ⟨_, rfl⟩
  · split
    · exact issueCommand_completes _ s
    · exact ⟨_, rfl⟩

/-- Of the four host operations only `POP` needs the invariant (20_memory.md R40). -/
theorem ControlInv.performOp_completes {s : State} (hi : ControlInv s) (o : HostOp) :
    ∃ t, performOp o s = .next t := by
  cases o with
  | wr n v => exact hostWrite_completes n v _
  | rd n => exact ⟨_, rfl⟩
  | gw r c b => exact ⟨_, rfl⟩
  | pop => exact hi.popStep_completes

/-- Whatever the host's next line, its turn answers (30_encoding.md R66). -/
theorem ControlInv.hostTurn_completes {s : State} (hi : ControlInv s) : ∃ t, hostTurn s = .next t := by
  unfold hostTurn
  split
  · exact ⟨_, rfl⟩
  · exact (hi.sameBlock (sameBlock_withHostq _ s)).performOp_completes _
  · exact ⟨_, rfl⟩
  · split <;> exact ⟨_, rfl⟩
  · obtain ⟨t, ht⟩ := hi.popStep_completes
    rw [ht]
    dsimp only
    split <;> exact ⟨_, rfl⟩

/-! ## The whole machine -/

/-- A state that meets the invariant has a next state, whoever moves (60_exceptions.md R218). -/
theorem ControlInv.step_completes {s : State} (hi : ControlInv s) : ∃ t, step s = .next t := by
  have hd : ControlInv (dropTurn s) := hi.sameBlock (sameBlock_dropTurn s)
  unfold step takeTurn
  cases nextAgent s with
  | sequencer => exact hd.sequencerTurn_completes
  | host => exact hd.hostTurn_completes

/-- Settles O55: a state that meets the invariant has a next state, and that state meets it again. -/
theorem controlledMachineNeverStops : Obligations.ControlledMachineNeverStops := by
  intro s hi n
  induction n generalizing s with
  | zero => exact ⟨s, rfl⟩
  | succ n ih =>
    obtain ⟨t, ht⟩ := hi.step_completes
    rw [runFor_succ ht]
    exact ih t (controlInvKept s t hi ht)

end Sys2Proof.Machine
end

section
/-! The grid write of an idle block. -/

namespace Sys2Proof.Machine

/-- An idle block takes a grid write (20_memory.md R46). -/
theorem hostGridWrite_of_idle {s : State} (r c : Coord) (b : Bool) (hb : s.busy = false) :
    hostGridWrite r c b s = writeCell r.toNat c.toNat b s := by
  simp [hostGridWrite, hb]

/-- A write inside the store writes the cell (20_memory.md R46). -/
theorem writeCell_of_lt {r c : Nat} (b : Bool) (s : State) (h : r < Config.NMAX ∧ c < Config.NMAX) :
    writeCell r c b s = withGrid (gridWrite s.grid r c b) s :=
  if_pos ((inStore_iff r c).2 h)

/-- A write outside the store is dropped (20_memory.md R47). -/
theorem writeCell_of_not_lt {r c : Nat} (b : Bool) (s : State) (h : ¬ (r < Config.NMAX ∧ c < Config.NMAX)) :
    writeCell r c b s = s :=
  if_neg fun hin => h ((inStore_iff r c).1 hin)

/-- The rows and columns of the host port are 8-bit numbers, so a write leaves every cell it does not name alone. -/
theorem gridRead_gridWrite_coord (g : Memory) {r c r' c' : Coord} (b : Bool) (h : ¬ (r' = r ∧ c' = c)) :
    gridRead (gridWrite g r.toNat c.toNat b) r'.toNat c'.toNat = gridRead g r'.toNat c'.toNat :=
  gridRead_gridWrite_other g b c.isLt c'.isLt fun ⟨hr, hc⟩ => h ⟨BitVec.eq_of_toNat_eq hr, BitVec.eq_of_toNat_eq hc⟩

/-- Settles O50: inside the store the new grid is the written one, outside it the old one. -/
theorem gridWriteChangesOneCell : Obligations.GridWriteChangesOneCell := by
  intro s r c b rest hn hq hb
  rw [step_of_gw hn hq, hostGridWrite_of_idle (s := lineDone rest s) r c b hb]
  by_cases hin : r.toNat < Config.NMAX ∧ c.toNat < Config.NMAX
  · rw [writeCell_of_lt b _ hin]
    exact ⟨gridWrite s.grid r.toNat c.toNat b, rfl,
      fun _ => ⟨gridRead_gridWrite_same _ _ _ _, fun _ _ => gridRead_gridWrite_coord _ _⟩, fun hout => absurd hin hout⟩
  · rw [writeCell_of_not_lt b _ hin]
    exact ⟨s.grid, rfl, fun h => absurd h hin, fun _ => rfl⟩

end Sys2Proof.Machine
end

section
/-! When FMTRAW, FMTINFO and FMTV change, and what they hold then. -/

namespace Sys2Proof.Machine

/-! ## The mask id as a field of FMTINFO (40_format_demux.md R85, R89) -/

/-- Bit `i` of `packHigh` is element `i` from the end. -/
theorem getLsbD_packHigh {w : Nat} {bits : List Bool} (hw : bits.length = w) {i : Nat} (hi : i < w) :
    (packHigh w bits).getLsbD i = bits.getD (w - 1 - i) false := by
  rw [packHigh, getLsbD_packLow _ hi, List.getD_eq_getElem?_getD, List.getD_eq_getElem?_getD,
    List.getElem?_reverse (by omega), hw]

/-- The mask id is bits 12:10 of the packed field (40_format_demux.md R89). -/
theorem maskIdBits_eq_infoMid {f : List Bool} (hf : f.length = 15) : maskIdBits f = infoMid (packHigh 15 f) := by
  apply BitVec.eq_of_getLsbD_eq
  intro i hi
  have hfield : ((f.drop 2).take 3).length = 3 := by simp [hf]
  have hidx : 2 + (3 - 1 - i) = 15 - 1 - (10 + i) := by omega
  rw [maskIdBits, getLsbD_packHigh hfield hi, infoMid, BitVec.getLsbD_extractLsb', getLsbD_packHigh hf (by omega),
    ← hidx]
  simp [List.getD_eq_getElem?_getD, hi, show 3 - 1 - i < 3 by omega]

/-- Un-masking fifteen bits gives fifteen (40_format_demux.md R84). -/
theorem unmask_bitsLow_length (x : FormatWord) : (unmask (bitsLow x)).length = 15 := by
  simp [unmask, keyBits]

/-! ## What a completed read publishes, and what every other turn keeps -/

/-- FMTV is 1 and FMTRAW, FMTINFO and MASK agree (40_format_demux.md R88, R89). -/
def formatPublished (t : State) : Prop :=
  t.fmtv = true ∧ t.fmtinfo = t.fmtraw ^^^ 0x5412#15 ∧ t.mask = infoMid t.fmtinfo

/-- The completion of a format read publishes words that agree (40_format_demux.md R88). -/
theorem formatPublished_publishRead (s : State) : formatPublished (publishRead s) :=
  ⟨rfl, packHigh_unmask s.rawsh, maskIdBits_eq_infoMid (unmask_bitsLow_length s.rawsh)⟩

/-- FMTRAW and FMTINFO are the same in both states, and FMTV has not become 1. -/
def formatKept (s t : State) : Prop :=
  t.fmtraw = s.fmtraw ∧ t.fmtinfo = s.fmtinfo ∧ (t.fmtv = true → s.fmtv = true)

/-- So a step that keeps the format makes none of the changes the statement is about. -/
theorem formatKept.not_changed {s t : State} (h : formatKept s t) :
    ¬ (t.fmtraw ≠ s.fmtraw ∨ t.fmtinfo ≠ s.fmtinfo ∨ (s.fmtv = false ∧ t.fmtv = true)) := by
  obtain ⟨hraw, hinfo, hv⟩ := h
  rintro (hne | hne | ⟨hs, ht⟩)
  · exact hne hraw
  · exact hne hinfo
  · exact Bool.false_ne_true (hs.symm.trans (hv ht))

/-- Only the last collection step publishes; every other sequencer turn keeps the format (40_format_demux.md R87,
R88). -/
theorem sequencerTurn_format {s t : State} (h : sequencerTurn s = .next t) :
    formatKept s t ∨ (s.seq = .fmt 14 ∧ formatPublished t) := by
  unfold sequencerTurn at h
  split at h
  case h_1 | h_4 =>
    cases h
    exact .inl ⟨rfl, rfl, id⟩
  case h_2 i hq =>
    have hlast (h14 : i.val = 14) : s.seq = .fmt 14 := hq.trans (congrArg _ (Fin.ext h14))
    obtain ⟨-, ⟨hi, rfl⟩ | ⟨h14, -, rfl⟩ | ⟨h14, -, rfl⟩⟩ := formatStep_next h
    · exact .inl ⟨rfl, rfl, id⟩
    all_goals exact .inr ⟨hlast h14, formatPublished_publishRead _⟩
  case h_3 k hq =>
    obtain ⟨-, ⟨-, rfl⟩ | ⟨-, rfl⟩⟩ := scanStep_next h
    all_goals exact .inl ⟨rfl, rfl, id⟩

/-- The acceptance of a command keeps the format words; FMT and RUN clear FMTV (40_format_demux.md R86). -/
theorem exec_formatKept {i : Instr} {s t : State} (h : exec i s = .next t) : formatKept s t := by
  rcases exec_next h with ⟨-, rfl⟩ | ⟨-, -, rfl⟩ | ⟨-, -, rfl⟩ | ⟨-, -, rfl⟩ | ⟨-, -, rfl⟩ | ⟨-, -, -, rfl⟩ |
    ⟨-, -, -, -, rfl⟩ <;> exact ⟨rfl, rfl, by simp⟩

/-- So does any command word, illegal words included. -/
theorem issueCommand_formatKept {w : CommandWord} {s t : State} (h : issueCommand w s = .next t) :
    formatKept s t := by
  rcases issueCommand_cases h with ⟨i, -, hx⟩ | ⟨-, rfl⟩
  · exact exec_formatKept hx
  · exact ⟨rfl, rfl, id⟩

/-- FMTRAW, FMTINFO and STATUS are read-only to the host (10_state.md R14). -/
theorem writeReg_formatKept (n : RegNum) (v : Word) (s : State) : formatKept s (writeReg n v s) := by
  rw [writeReg_eq]
  exact ⟨rfl, rfl, id⟩

/-- A `POP` leaves the format registers (43_data_scanner.md R145 to R147). -/
theorem popStep_formatKept {s t : State} (h : popStep s = .next t) : formatKept s t := by
  obtain ⟨-, -, -, -, -, -, hraw, hinfo, hv⟩ := popStep_frame h
  exact ⟨hraw, hinfo, fun ht => hv ▸ ht⟩

/-- A host turn other than a reset keeps the format. -/
theorem hostTurn_formatKept {s t : State} (h : hostTurn s = .next t) (hreset : ¬ ∃ rest, s.hostq = .reset :: rest) :
    formatKept s t := by
  rcases hostTurn_cases h with ⟨q, r, rfl⟩ | ⟨rest, hq, -⟩ | ⟨q, v, hp, rfl⟩ | ⟨rest, -, hp⟩ |
    ⟨-, r, c, b, rest, -, -, rfl⟩ | ⟨-, n, v, rest, -, -, rfl⟩ | ⟨-, v, rest, -, hc⟩
  · exact ⟨rfl, rfl, id⟩
  · exact absurd ⟨rest, hq⟩ hreset
  · exact popStep_formatKept (t := v) hp
  · exact popStep_formatKept (s := withHostq rest s) hp
  · exact ⟨rfl, rfl, id⟩
  · exact writeReg_formatKept n v (withRet .nothing (withHostq rest s))
  · exact issueCommand_formatKept (s := withRet .nothing (withHostq rest s)) hc

/-- Settles O58: a step that changes the format does not keep it, so it is the last collection step or a reset. -/
theorem formatRegistersChangeTogether : Obligations.FormatRegistersChangeTogether := by
  intro s t h hchange
  rcases step_cases h with ⟨-, hs⟩ | ⟨hn, hh⟩
  · rcases sequencerTurn_format hs with hkept | ⟨hq, hpub⟩
    · exact absurd hchange hkept.not_changed
    · exact .inr ⟨hq, hpub⟩
  · refine .inl ⟨hn, ?_⟩
    by_contra hreset
    exact (hostTurn_formatKept (s := dropTurn s) hh hreset).not_changed hchange

end Sys2Proof.Machine
end

section
/-! The decoders and the encoders agree: a word is the row of its fields, so it is known from them, and an encoded
word has the fields it was built from. -/

namespace Sys2Proof

/-! ## Command words (30_encoding.md R60, R61, R64) -/

/-- A command word is its two fields in a row (30_encoding.md R60). -/
theorem zeroField_append_opField (w : CommandWord) : zeroField w ++ opField w = w :=
  BitVec.extractLsb'_append_extractLsb'

/-- The eight values of OP: the five operations and the three reserved ones (30_encoding.md R61, R64). -/
theorem opField_cases : ∀ op : BitVec 3,
    op = 0b000#3 ∨ op = 0b001#3 ∨ op = 0b010#3 ∨ op = 0b011#3 ∨ op = 0b100#3 ∨ 5 ≤ op.toNat := by decide

/-- A word with a bit of 7:3 set is illegal (30_encoding.md R64). -/
theorem decode_of_zeroField_ne {w : CommandWord} (h : zeroField w ≠ 0#5) : decode w = .error .zeroFieldSet :=
  if_neg h

/-- A word with a reserved OP is illegal (30_encoding.md R64). -/
theorem decode_of_reservedOp {w : CommandWord} (hz : zeroField w = 0#5) (hop : 5 ≤ (opField w).toNat) :
    decode w = .error .reservedOp := by
  rw [decode, if_pos hz]
  split
  case h_6 => rfl
  all_goals omega

/-- Each command's word decodes to it (30_encoding.md R61). -/
theorem decode_encode (i : Instr) : decode (encode i) = .ok i := by cases i <;> rfl

/-- The legal words are the five encodings (30_encoding.md R60, R61). -/
theorem exists_encode_eq {w : CommandWord} (hz : zeroField w = 0#5) (hop : (opField w).toNat < 5) :
    ∃ i, encode i = w := by
  have hw := zeroField_append_opField w
  rw [hz] at hw
  rcases opField_cases (opField w) with h | h | h | h | h | h
  · exact ⟨.nop, by rw [← hw, h]; rfl⟩
  · exact ⟨.fmt, by rw [← hw, h]; rfl⟩
  · exact ⟨.scan, by rw [← hw, h]; rfl⟩
  · exact ⟨.run, by rw [← hw, h]; rfl⟩
  · exact ⟨.probe, by rw [← hw, h]; rfl⟩
  · omega

/-- A word is the encoding of a command or illegal, for one of the two reasons of 30_encoding.md R64. -/
theorem decode_cases (w : CommandWord) :
    (∃ i, w = encode i ∧ decode w = .ok i) ∨
    ((zeroField w ≠ 0#5 ∨ 5 ≤ (opField w).toNat) ∧ ∃ e, decode w = .error e) := by
  by_cases hz : zeroField w = 0#5
  · by_cases hop : 5 ≤ (opField w).toNat
    · exact .inr ⟨.inr hop, _, decode_of_reservedOp hz hop⟩
    · obtain ⟨i, rfl⟩ := exists_encode_eq hz (by omega)
      exact .inl ⟨i, rfl, decode_encode i⟩
  · exact .inr ⟨.inl hz, _, decode_of_zeroField_ne hz⟩

/-- An encoded word has zero bits 7:3 and an OP below 5 (30_encoding.md R60, R61). -/
theorem encode_fields (i : Instr) : zeroField (encode i) = 0#5 ∧ (opField (encode i)).toNat < 5 := by
  cases i <;> decide

/-- Settles O1: the five words are the encodings of the five commands. -/
theorem commandWordsDecode : Obligations.CommandWordsDecode :=
  ⟨decode_encode .nop, decode_encode .fmt, decode_encode .scan, decode_encode .run, decode_encode .probe⟩

/-- Settles O2: a word that decodes is an encoding, and the encoding of the command it decodes to. -/
theorem commandDecodeEncodeAgree : Obligations.CommandDecodeEncodeAgree := by
  intro i w
  constructor
  · intro h
    rcases decode_cases w with ⟨j, hw, hj⟩ | ⟨-, e, he⟩
    · cases hj.symm.trans h
      exact hw
    · cases he.symm.trans h
  · rintro rfl
    exact decode_encode i

/-- Settles O3: a word is illegal or the encoding of a command, and an encoding has neither fault. -/
theorem illegalWordsRejected : Obligations.IllegalWordsRejected := by
  intro w
  rcases decode_cases w with ⟨i, rfl, hi⟩ | ⟨hfault, he⟩
  · obtain ⟨hz, hop⟩ := encode_fields i
    refine iff_of_false ?_ ?_
    · rintro ⟨e, he⟩
      cases hi.symm.trans he
    · rintro (hz' | hop')
      · exact hz' hz
      · exact absurd hop (Nat.not_lt.2 hop')
  · exact iff_of_true he hfault

/-! ## The records of the host operations (30_encoding.md R66)

The kinds are 00 for `RD`, 01 for `WR`, 10 for `GW` and 11 for `POP`. -/

section Records

variable {w : HostRecord}

/-- The four kinds. -/
theorem recordKind_cases : ∀ k : BitVec 2, k = 0b00#2 ∨ k = 0b01#2 ∨ k = 0b10#2 ∨ k = 0b11#2 := by decide

/-- A record of kind 00 is a register read when "rest" is 0. -/
theorem decodeRecord_of_kind_rd (hk : w.extractLsb' 30 2 = 0b00#2) :
    decodeRecord w =
      if w.extractLsb' 20 10 = 0#10 ∧ w.extractLsb' 0 16 = 0#16 then some (.rd (w.extractLsb' 16 4)) else none := by
  simp only [decodeRecord, hk]
  rfl

/-- A record of kind 01 is a register write when "rest" is 0. -/
theorem decodeRecord_of_kind_wr (hk : w.extractLsb' 30 2 = 0b01#2) :
    decodeRecord w =
      if w.extractLsb' 20 10 = 0#10 then some (.wr (w.extractLsb' 16 4) (w.extractLsb' 0 16)) else none := by
  simp only [decodeRecord, hk]
  rfl

/-- A record of kind 10 is a grid write when "rest" is 0. -/
theorem decodeRecord_of_kind_gw (hk : w.extractLsb' 30 2 = 0b10#2) :
    decodeRecord w =
      if w.extractLsb' 24 6 = 0#6 ∧ w.extractLsb' 1 7 = 0#7 then
        some (.gw (w.extractLsb' 16 8) (w.extractLsb' 8 8) (w.getLsbD 0))
      else none := by
  simp only [decodeRecord, hk]
  rfl

/-- A record of kind 11 is a `POP` when "rest" is 0. -/
theorem decodeRecord_of_kind_pop (hk : w.extractLsb' 30 2 = 0b11#2) :
    decodeRecord w = if w.extractLsb' 0 30 = 0#30 then some .pop else none := by
  simp only [decodeRecord, hk]
  rfl

/-! ### The fields of a record in a row -/

/-- A field above the last part of a row is a field of the parts before it. -/
theorem extractLsb'_append_of_le {m j start len : Nat} {x : BitVec m} {y : BitVec j} {field : BitVec len}
    (h : j ≤ start) (hx : x.extractLsb' (start - j) len = field) : (x ++ y).extractLsb' start len = field :=
  (BitVec.extractLsb'_append_eq_of_le h).trans hx

/-- The record of a register operation is its kind, "rest", register number and value in a row. -/
theorem eq_registerRecord_iff {kind : BitVec 2} {rest : BitVec 10} {n : RegNum} {v : Word} :
    w = kind ++ rest ++ n ++ v ↔
      w.extractLsb' 30 2 = kind ∧ w.extractLsb' 20 10 = rest ∧ w.extractLsb' 16 4 = n ∧ w.extractLsb' 0 16 = v := by
  constructor
  · rintro rfl
    refine ⟨?_, ?_, ?_, BitVec.extractLsb'_append_eq_right⟩
    · iterate 2 refine extractLsb'_append_of_le (by decide) ?_
      exact BitVec.extractLsb'_append_eq_left
    · iterate 2 refine extractLsb'_append_of_le (by decide) ?_
      exact BitVec.extractLsb'_append_eq_right
    · refine extractLsb'_append_of_le (by decide) ?_
      exact BitVec.extractLsb'_append_eq_right
  · rintro ⟨rfl, rfl, rfl, rfl⟩
    iterate 2 rw [BitVec.extractLsb'_append_extractLsb'_eq_extractLsb' (by rfl)]
    symm
    exact BitVec.extractLsb'_append_extractLsb'

/-- Bit 0 as a field of one bit. -/
theorem ofBool_getLsbD_zero (w : HostRecord) : BitVec.ofBool (w.getLsbD 0) = w.extractLsb' 0 1 := by
  apply BitVec.eq_of_getLsbD_eq
  intro i hi
  obtain rfl : i = 0 := by omega
  simp

/-- The record of a grid write is its kind, "rest", row, column, "rest" and module in a row. -/
theorem eq_gridRecord_iff {kind : BitVec 2} {rest : BitVec 6} {r c : Coord} {rest' : BitVec 7} {b : Bool} :
    w = kind ++ rest ++ r ++ c ++ rest' ++ BitVec.ofBool b ↔
      w.extractLsb' 30 2 = kind ∧ w.extractLsb' 24 6 = rest ∧ w.extractLsb' 16 8 = r ∧ w.extractLsb' 8 8 = c ∧
      w.extractLsb' 1 7 = rest' ∧ w.getLsbD 0 = b := by
  constructor
  · rintro rfl
    refine ⟨?_, ?_, ?_, ?_, ?_, BitVec.getLsbD_append.trans (BitVec.getLsbD_ofBool b 0)⟩
    · iterate 4 refine extractLsb'_append_of_le (by decide) ?_
      exact BitVec.extractLsb'_append_eq_left
    · iterate 4 refine extractLsb'_append_of_le (by decide) ?_
      exact BitVec.extractLsb'_append_eq_right
    · iterate 3 refine extractLsb'_append_of_le (by decide) ?_
      exact BitVec.extractLsb'_append_eq_right
    · iterate 2 refine extractLsb'_append_of_le (by decide) ?_
      exact BitVec.extractLsb'_append_eq_right
    · refine extractLsb'_append_of_le (by decide) ?_
      exact BitVec.extractLsb'_append_eq_right
  · rintro ⟨rfl, rfl, rfl, rfl, rfl, rfl⟩
    rw [ofBool_getLsbD_zero]
    iterate 4 rw [BitVec.extractLsb'_append_extractLsb'_eq_extractLsb' (by rfl)]
    symm
    exact BitVec.extractLsb'_append_extractLsb'

/-- The record of a `POP` is its kind and "rest" in a row. -/
theorem eq_popRecord_iff {kind : BitVec 2} {rest : BitVec 30} :
    w = kind ++ rest ↔ w.extractLsb' 30 2 = kind ∧ w.extractLsb' 0 30 = rest := by
  constructor
  · rintro rfl
    exact ⟨BitVec.extractLsb'_append_eq_left, BitVec.extractLsb'_append_eq_right⟩
  · rintro ⟨rfl, rfl⟩
    symm
    exact BitVec.extractLsb'_append_extractLsb'

/-! ### Decoding and encoding -/

/-- Each operation's record decodes to it, whatever its operands (30_encoding.md R66). -/
theorem decodeRecord_encodeRecord (o : HostOp) : decodeRecord (encodeRecord o) = some o := by
  cases o with
  | rd n =>
    obtain ⟨hkind, hrest, hn, hv⟩ := eq_registerRecord_iff.1 (rfl : encodeRecord (.rd n) = _)
    rw [decodeRecord_of_kind_rd hkind, if_pos ⟨hrest, hv⟩, hn]
  | wr n v =>
    obtain ⟨hkind, hrest, hn, hv⟩ := eq_registerRecord_iff.1 (rfl : encodeRecord (.wr n v) = _)
    rw [decodeRecord_of_kind_wr hkind, if_pos hrest, hn, hv]
  | gw r c b =>
    obtain ⟨hkind, hrest, hr, hc, hrest', hb⟩ := eq_gridRecord_iff.1 (rfl : encodeRecord (.gw r c b) = _)
    rw [decodeRecord_of_kind_gw hkind, if_pos ⟨hrest, hrest'⟩, hr, hc, hb]
  | pop =>
    obtain ⟨hkind, hrest⟩ := eq_popRecord_iff.1 (rfl : encodeRecord .pop = _)
    rw [decodeRecord_of_kind_pop hkind, if_pos hrest]

/-- A record that decodes is the record of the operation it decodes to: its kind is that operation's, its operands fill
their fields and "rest" is 0 (30_encoding.md R66). -/
theorem eq_encodeRecord_of_decodeRecord {o : HostOp} (h : decodeRecord w = some o) : w = encodeRecord o := by
  rcases recordKind_cases (w.extractLsb' 30 2) with hkind | hkind | hkind | hkind
  · rw [decodeRecord_of_kind_rd hkind, Option.ite_none_right_eq_some, Option.some.injEq] at h
    obtain ⟨⟨hrest, hv⟩, rfl⟩ := h
    exact eq_registerRecord_iff.2 ⟨hkind, hrest, rfl, hv⟩
  · rw [decodeRecord_of_kind_wr hkind, Option.ite_none_right_eq_some, Option.some.injEq] at h
    obtain ⟨hrest, rfl⟩ := h
    exact eq_registerRecord_iff.2 ⟨hkind, hrest, rfl, rfl⟩
  · rw [decodeRecord_of_kind_gw hkind, Option.ite_none_right_eq_some, Option.some.injEq] at h
    obtain ⟨⟨hrest, hrest'⟩, rfl⟩ := h
    exact eq_gridRecord_iff.2 ⟨hkind, hrest, rfl, rfl, hrest', rfl⟩
  · rw [decodeRecord_of_kind_pop hkind, Option.ite_none_right_eq_some, Option.some.injEq] at h
    obtain ⟨hrest, rfl⟩ := h
    exact eq_popRecord_iff.2 ⟨hkind, hrest⟩

end Records

/-- Settles O4: decoding and encoding a record undo each other. -/
theorem hostRecordsDecodeEncodeAgree : Obligations.HostRecordsDecodeEncodeAgree := by
  intro o w
  constructor
  · exact eq_encodeRecord_of_decodeRecord
  · rintro rfl
    exact decodeRecord_encodeRecord o

end Sys2Proof
end

section
/-! What the acceptance of a command leaves unchanged, and the report of an illegal word. -/

namespace Sys2Proof.Machine

/-! ## The acceptance of a command (44_control_commands.md R161) -/

/-- The grid store, the host's registers, the format words, RAWSH and the model's own fields are the same in both
states (30_encoding.md R62, logs 4, 5, 6). -/
structure SameInputs (s t : State) : Prop where
  grid : t.grid = s.grid
  size : t.size = s.size
  prow : t.prow = s.prow
  pcol : t.pcol = s.pcol
  mask : t.mask = s.mask
  fmtraw : t.fmtraw = s.fmtraw
  fmtinfo : t.fmtinfo = s.fmtinfo
  rawsh : t.rawsh = s.rawsh
  hostq : t.hostq = s.hostq
  turns : t.turns = s.turns
  ret : t.ret = s.ret

/-- No command writes any of these at acceptance, whether it goes on, ends or is refused for its SIZE. -/
theorem exec_sameInputs {i : Instr} {s t : State} (h : exec i s = .next t) : SameInputs s t := by
  rcases exec_next h with ⟨-, rfl⟩ | ⟨-, -, rfl⟩ | ⟨-, -, rfl⟩ | ⟨-, -, rfl⟩ | ⟨-, -, rfl⟩ | ⟨-, -, -, rfl⟩ |
    ⟨-, -, -, -, rfl⟩ <;> exact ⟨rfl, rfl, rfl, rfl, rfl, rfl, rfl, rfl, rfl, rfl, rfl⟩

/-- PRES, the stream, FMTV, the sequencer and the report each change by their own commands only (44_control_commands.md
R160, R162, R164; 43_data_scanner.md R143; 40_format_demux.md R86). -/
theorem exec_writes_own {i : Instr} {s t : State} (h : exec i s = .next t) :
    (i ≠ .probe → t.pres = s.pres) ∧
    (i ≠ .scan → t.bs = s.bs ∧ t.count = s.count) ∧
    (i ≠ .fmt → i ≠ .run → t.fmtv = s.fmtv) ∧
    (i = .nop ∨ i = .probe → t.busy = s.busy ∧ t.seq = s.seq ∧ t.cmdl = s.cmdl) ∧
    (i = .nop → t.done = s.done ∧ t.err = s.err) := by
  rcases exec_next h with ⟨rfl, rfl⟩ | ⟨hnop, -, rfl⟩ | ⟨rfl, -, rfl⟩ | ⟨rfl, -, rfl⟩ | ⟨rfl, -, rfl⟩ |
    ⟨rfl, -, -, rfl⟩ | ⟨rfl, -, -, -, rfl⟩
  -- an illegal SIZE: the command is any but NOP, and only the report changes
  case inr.inl => simp [hnop]
  all_goals simp

/-- Settles O15: the inputs of every command, then what only some commands write. -/
theorem acceptanceFrame : Obligations.AcceptanceFrame := by
  intro i s t h
  obtain ⟨hgrid, hsize, hprow, hpcol, hmask, hraw, hinfo, hrawsh, hq, hturns, hret⟩ := exec_sameInputs h
  exact ⟨fun _ _ => by rw [hgrid], hgrid, hsize, hprow, hpcol, hmask, hraw, hinfo, hrawsh, hq, hturns, hret,
    exec_writes_own h⟩

/-! ## Illegal words (60_exceptions.md R202) -/

/-- A word that does not decode is reported (30_encoding.md R64). -/
theorem issueCommand_of_illegal {w : CommandWord} {e : DecodeError} (s : State) (h : decode w = .error e) :
    issueCommand w s = .next { s with err := 6#4, done := false } := by
  simp only [issueCommand, h]
  rfl

/-- Settles O6: the write to CMD of an idle block issues its low 8 bits, which do not decode. -/
theorem stepReportsIllegalWord : Obligations.StepReportsIllegalWord := by
  intro s v rest e hn hq hb hd
  rw [← BitVec.setWidth_eq_extractLsb' (by decide)] at hd
  rw [step_of_wr hn hq, hostWrite_cmd_of_idle (s := lineDone rest s) v hb, issueCommand_of_illegal _ hd, lineDone_eq]

end Sys2Proof.Machine
end

section
/-! The cells of the walk one by one, and the steps of a scan at a data cell and at its end. -/

namespace Sys2Proof.Machine

/-! ## The walk without the loop (43_data_scanner.md R140) -/

/-- The element of a sequence of equally long blocks is an element of one block. -/
theorem getElem?_flatMap_of_length {α β : Type} {f : α → List β} {m : Nat} (hm : 0 < m) (l : List α)
    (hf : ∀ a ∈ l, (f a).length = m) (k : Nat) :
    (l.flatMap f)[k]? = l[k / m]?.bind fun a => (f a)[k % m]? := by
  induction l generalizing k with
  | nil => simp
  | cons a l ih =>
    obtain ⟨ha, hl⟩ := List.forall_mem_cons.1 hf
    rw [List.flatMap_cons]
    by_cases hk : k < m
    · rw [List.getElem?_append_left (by omega), Nat.div_eq_of_lt hk, Nat.mod_eq_of_lt hk]
      rfl
    · obtain ⟨j, rfl⟩ := Nat.exists_eq_add_of_le' (Nat.le_of_not_lt hk)
      rw [List.getElem?_append_right (by omega), ha, Nat.add_sub_cancel, ih hl, Nat.add_div_right j hm,
        Nat.add_mod_right]
      rfl

/-- The column of pair `p` (43_data_scanner.md R136). -/
theorem colseq_getElem? {n : Nat} (h : LegalSide n) (p : Nat) :
    (colseq n)[p]? = if p < (n - 9) / 2 + 3 then some (colAt n p) else none := by
  rw [colseq_eq h]
  by_cases hp : p < (n - 9) / 2 + 1
  · rw [List.getElem?_append_left (by simpa using hp), if_pos (by omega), colAt, if_pos (by omega)]
    simp [hp]
  · obtain ⟨q, rfl⟩ := Nat.exists_eq_add_of_le (Nat.le_of_not_lt hp)
    have hlast : ¬ (n - 9) / 2 + 1 + q ≤ (n - 9) / 2 := by omega
    rw [List.getElem?_append_right (by simp), List.length_map, List.length_range, Nat.add_sub_cancel_left, colAt,
      if_neg hlast]
    match q with
    | 0 | 1 => simp
    | q + 2 =>
      rw [if_neg (by omega)]
      rfl

/-- Row `t` of a column, upward or downward (43_data_scanner.md R138). -/
theorem rowsOf_getElem? {n t : Nat} (col : Nat) (ht : t < n) :
    (rowsOf n col)[t]? = some (if col % 4 = 0 then n - 1 - t else t) := by
  unfold rowsOf
  split <;> simp [ht]

/-- The cells of the pair of columns at `col`, in the order of the walk (43_data_scanner.md R140). -/
def columnPair (n col : Nat) : List (Nat × Nat) := (rowsOf n col).flatMap fun row => [(row, col), (row, col - 1)]

/-- The walk is its pairs of columns in a row (43_data_scanner.md R140). -/
theorem visit_eq_flatMap (n : Nat) : visit n = (colseq n).flatMap (columnPair n) := rfl

/-- A pair of columns has two cells a row. -/
theorem columnPair_length (n col : Nat) : (columnPair n col).length = 2 * n := by
  simp [columnPair, (rowsOf_perm n col).length_eq, Nat.mul_comm]

/-- Cell `q` of a pair of columns (43_data_scanner.md R140). -/
theorem columnPair_getElem? {n q : Nat} (col : Nat) (hq : q < 2 * n) :
    (columnPair n col)[q]? = some (if col % 4 = 0 then n - 1 - q / 2 else q / 2, col - q % 2) := by
  rw [columnPair, getElem?_flatMap_of_length (m := 2) (by decide) _ (fun _ _ => rfl),
    rowsOf_getElem? col (by omega), Option.bind_some]
  rcases Nat.mod_two_eq_zero_or_one q with h | h <;> simp [h]

/-- `visit(N)[k]` is the closed form, and the walk ends at `N*(N-3)` cells (43_data_scanner.md R140). -/
theorem visit_getElem? {n : Nat} (h : LegalSide n) (k : Nat) :
    (visit n)[k]? = if k < visitLength n then some (visitAt n k) else none := by
  have ⟨hlo, _, hmod⟩ := h
  have hn : 0 < 2 * n := by omega
  have hpairs : 2 * n * ((n - 9) / 2 + 3) = visitLength n := by
    have hcols : 2 * ((n - 9) / 2 + 3) = n - 3 := by omega
    rw [visitLength, Nat.mul_comm 2 n, Nat.mul_assoc, hcols]
  have hblock : k / (2 * n) < (n - 9) / 2 + 3 ↔ k < visitLength n := by
    rw [Nat.div_lt_iff_lt_mul hn, Nat.mul_comm _ (2 * n), hpairs]
  rw [visit_eq_flatMap, getElem?_flatMap_of_length hn _ (fun col _ => columnPair_length n col), colseq_getElem? h]
  simp only [hblock]
  split
  · rw [Option.bind_some, columnPair_getElem? _ (Nat.mod_lt _ hn)]
    rfl
  · rfl

/-- Where the walk has a cell, it is the closed form's (43_data_scanner.md R140). -/
theorem visitAt_of_getElem? {n k : Nat} {cell : Nat × Nat} (h : LegalSide n) (hcell : (visit n)[k]? = some cell) :
    k < visitLength n ∧ visitAt n k = cell := by
  rwa [visit_getElem? h, Option.ite_none_right_eq_some, Option.some.injEq] at hcell

/-! ## A data cell (43_data_scanner.md R145, R146) -/

/-- A `POP` transfers the symbol offered (43_data_scanner.md R146). -/
theorem popStep_of_offered {s : State} {x : Symbol} (h : offered s = .ok (some x)) :
    popStep s = .next (transfer x s) := by
  simp only [popStep, h]

/-- At a data cell the sequencer's own turn changes nothing (43_data_scanner.md R146). -/
theorem sequencerTurn_of_data {s : State} {k : Nat} (hq : s.seq = .scan k) (hk : k < visitLength (side s))
    (hdata : isSkipped (side s) (visitAt (side s) k) = false) : sequencerTurn s = .next s := by
  simp only [sequencerTurn, hq, scanStep, if_pos hk, hdata]
  rfl

/-- At a data cell of the walk its bit is offered; the read is in range (43_data_scanner.md R145, 20_memory.md R45). -/
theorem offered_of_data {s : State} {k : Nat} (hl : LegalSide (side s)) (hq : s.seq = .scan k)
    (hk : k < visitLength (side s)) (hdata : isSkipped (side s) (visitAt (side s) k) = false) :
    offered s = .ok (some (.data (scanBit s.grid s.mask (visitAt (side s) k)))) := by
  obtain ⟨hrow, hcol⟩ := visitAt_lt hl hk
  simp only [offered, hq, if_pos hk, hdata, memRead_of_lt hrow hcol]
  rfl

/-- A data bit taken is counted and the walk goes on (43_data_scanner.md R145). -/
theorem transfer_of_scan {s : State} {k : Nat} (x : Symbol) (hq : s.seq = .scan k) :
    transfer x s = withSeq (afterVisit (side s) k) (countBit (emitSymbol x s)) := by
  simp only [transfer, hq]

/-- Settles O35: the cell is the one the closed form names, and its bit is what the `POP` transfers. -/
theorem visitStepEmits : Obligations.VisitStepEmits := by
  intro s k r c hl hq hcell hdata
  obtain ⟨hk, hvisit⟩ := visitAt_of_getElem? hl hcell
  have hskip : isSkipped (side s) (visitAt (side s) k) = false := by
    rw [side, hvisit]
    exact hdata
  refine ⟨sequencerTurn_of_data hq hk hskip, ?_⟩
  rw [popStep_of_offered (offered_of_data hl hq hk hskip), transfer_of_scan _ hq, side, hvisit]
  rfl

/-! ## The end of the scan (43_data_scanner.md R147) -/

/-- At the end the sequencer's own turn changes nothing (43_data_scanner.md R147). -/
theorem sequencerTurn_of_atEnd {s : State} (hq : s.seq = .atEnd) : sequencerTurn s = .next s := by
  simp only [sequencerTurn, hq]

/-- At the end the sentinel is offered (43_data_scanner.md R147). -/
theorem offered_of_atEnd {s : State} (hq : s.seq = .atEnd) : offered s = .ok (some .sentinel) := by
  simp only [offered, hq]

/-- The sentinel taken ends the command (43_data_scanner.md R147). -/
theorem transfer_of_atEnd {s : State} (x : Symbol) (hq : s.seq = .atEnd) :
    transfer x s = endCommand (emitSymbol x s) := by
  simp only [transfer, hq]

/-- Settles O36: the sentinel is offered at the end, and taking it ends the command. -/
theorem endStepEmitsSentinel : Obligations.EndStepEmitsSentinel := by
  intro s hq
  refine ⟨sequencerTurn_of_atEnd hq, ?_⟩
  rw [popStep_of_offered (offered_of_atEnd hq), transfer_of_atEnd _ hq]
  rfl

end Sys2Proof.Machine
end

section
/-! The format field: the fifteen positions, the field written out, and the exclusive or with the key. -/

namespace Sys2Proof.Machine

/-! ## The positions (40_format_demux.md R81) -/

/-- The rows above the horizontal timing row. -/
theorem formatRow_above_timing (n : Nat) {i : Nat} (hi : i ≤ 5) : formatRow n i = i := if_pos hi

/-- The two rows below the timing row, which is skipped. -/
theorem formatRow_below_timing (n : Nat) {i : Nat} (h6 : 6 ≤ i) (h7 : i ≤ 7) : formatRow n i = i + 1 := by
  rw [formatRow, if_neg (by omega), if_pos h7]

/-- The seven rows at the lower edge, counted from the edge. -/
theorem formatRow_at_edge (n : Nat) {i : Nat} (h8 : 8 ≤ i) (h15 : i < 15) : formatRow n i = n - (15 - i) := by
  rw [formatRow, if_neg (by omega), if_neg (by omega)]
  omega

/-- Settles O16: six rows above the timing row, two below it and seven at the lower edge. -/
theorem formatPositions : Obligations.FormatPositions := by
  intro n _
  simp [List.range_succ, formatCol, formatRow_above_timing, formatRow_below_timing, formatRow_at_edge]

/-- Element `i` of the raw bits is the module at position `i` (40_format_demux.md R82). -/
theorem rawBits_getD (g : Memory) (n : Nat) {i : Nat} (hi : i < 15) :
    (rawBits g n).getD i false = gridRead g (formatRow n i) formatCol := by
  simp [rawBits, hi]

/-- A format field has fifteen raw bits (40_format_demux.md R82). -/
theorem rawBits_length (g : Memory) (n : Nat) : (rawBits g n).length = 15 := by simp [rawBits]

/-- The modules collected are those of the fifteen positions (40_format_demux.md R82). -/
theorem rawBits_eq {n : Nat} (g : Memory) (hn : LegalSide n) :
    rawBits g n =
      [gridRead g 0 8, gridRead g 1 8, gridRead g 2 8, gridRead g 3 8, gridRead g 4 8, gridRead g 5 8,
        gridRead g 7 8, gridRead g 8 8, gridRead g (n - 7) 8, gridRead g (n - 6) 8, gridRead g (n - 5) 8,
        gridRead g (n - 4) 8, gridRead g (n - 3) 8, gridRead g (n - 2) 8, gridRead g (n - 1) 8] := by
  have hmap := congrArg (List.map fun cell => gridRead g cell.1 cell.2) (formatPositions n hn)
  rwa [List.map_map] at hmap

/-! ## The un-masked field (40_format_demux.md R83 to R85) -/

/-- Un-masking reverses the bits and inverts those at the ones of the key (40_format_demux.md R84). -/
theorem unmask_eq (b0 b1 b2 b3 b4 b5 b6 b7 b8 b9 b10 b11 b12 b13 b14 : Bool) :
    unmask [b0, b1, b2, b3, b4, b5, b6, b7, b8, b9, b10, b11, b12, b13, b14] =
      [!b14, b13, !b12, b11, !b10, b9, b8, b7, b6, b5, !b4, b3, b2, !b1, b0] := by
  simp [unmask, keyBits]

/-- Two bits as a number, most significant first (40_format_demux.md R85). -/
theorem packHigh_two_toNat : ∀ a b : Bool, (packHigh 2 [a, b]).toNat = 2 * a.toNat + b.toNat := by decide

/-- Three bits as a number, most significant first (40_format_demux.md R85). -/
theorem packHigh_three_toNat : ∀ a b c : Bool,
    (packHigh 3 [a, b, c]).toNat = 4 * a.toNat + 2 * b.toNat + c.toNat := by decide

/-- Settles O17: the field is the un-masking of the bits collected, and its first five bits are the two numbers. -/
theorem formatFieldWrittenOut : Obligations.FormatFieldWrittenOut := by
  intro g n hn
  have hf : (formatInfo g n).f = _ := (congrArg unmask (rawBits_eq g hn)).trans (unmask_eq ..)
  refine ⟨hf, ?_, ?_⟩
  · show (errorLevelBits (formatInfo g n).f).toNat = _
    rw [hf]
    exact packHigh_two_toNat _ _
  · show (maskIdBits (formatInfo g n).f).toNat = _
    rw [hf]
    exact packHigh_three_toNat _ _ _

/-! ## Un-masking and the key (40_format_demux.md R89, R90) -/

/-- The first elements of a sequence are the high bits of its number. -/
theorem packHigh_take {w k : Nat} {bits : List Bool} (hw : bits.length = w) (hk : k ≤ w) :
    packHigh k (bits.take k) = (packHigh w bits).extractLsb' (w - k) k := by
  apply BitVec.eq_of_getLsbD_eq
  intro i hi
  have hlen : (bits.take k).length = k := by simp [hw, hk]
  have hidx : w - 1 - (w - k + i) = k - 1 - i := by omega
  rw [getLsbD_packHigh hlen hi, BitVec.getLsbD_extractLsb', getLsbD_packHigh hw (by omega), hidx]
  simp [List.getD_eq_getElem?_getD, hi, show k - 1 - i < k by omega]

/-- The two level bits are bits 14:13 of the packed field (40_format_demux.md R89). -/
theorem errorLevelBits_eq_infoEc {f : List Bool} (hf : f.length = 15) : errorLevelBits f = infoEc (packHigh 15 f) :=
  packHigh_take hf (by decide)

/-- Settles O18: the packed field is the exclusive or, and its two fields are cut from it. -/
theorem formatUnmaskIsXor : Obligations.FormatUnmaskIsXor := by
  intro x
  have hlen := unmask_bitsLow_length x
  rw [errorLevelBits_eq_infoEc hlen, maskIdBits_eq_infoMid hlen, packHigh_unmask]
  exact ⟨rfl, rfl, rfl⟩

/-- The exclusive or with one sequence, taken twice, cancels. -/
theorem zipWith_xor_cancel {l key : List Bool} (h : l.length ≤ key.length) :
    List.zipWith (fun a b => a ^^ b) (List.zipWith (fun a b => a ^^ b) l key) key = l := by
  induction l generalizing key with
  | nil => simp
  | cons a l ih =>
    cases key with
    | nil => simp at h
    | cons b key => simp [ih (Nat.le_of_succ_le_succ h)]

/-- Settles O19: masking again cancels the key and leaves the reversed bits; a register's exclusive or cancels too. -/
theorem formatXorSelfInverse : Obligations.FormatXorSelfInverse := by
  constructor
  · intro raw hraw
    have hlen : raw.reverse.length ≤ keyBits.length := by simp [hraw, keyBits]
    rw [unmask, zipWith_xor_cancel hlen, List.reverse_reverse]
  · intro x
    rw [packHigh_unmask, BitVec.xor_assoc, BitVec.xor_self, BitVec.xor_zero]

end Sys2Proof.Machine
end

section
/-! The format read: its acceptance, its fifteen collection steps, its completion, and what every move keeps of it. -/

namespace Sys2Proof.Machine

/-! ## The acceptance (40_format_demux.md R86) -/

/-- Settles O9: with a legal SIZE the acceptance goes on to FMT's own rule. -/
theorem fmtAccepted : Obligations.FmtAccepted := by
  intro s hl
  have hlegal : legalSize (side s) = true := (legalSize_iff_legalSide _).2 hl
  rw [exec, execFmt, acceptSized_legal hlegal]
  rfl

/-! ## One collection step (40_format_demux.md R87) -/

/-- The module at position `i` is read into RAWSH (40_format_demux.md R87). -/
def collectModule (i : Nat) (s : State) : State :=
  withRawBit i (gridRead s.grid (formatRow (side s) i) formatCol) s

/-- RAWSH after a module is read: bit `i` is the module, the other bits are as before (40_format_demux.md R87). -/
theorem collectModule_getLsbD (i : Nat) (s : State) {j : Nat} (hj : j < 15) :
    (collectModule i s).rawsh.getLsbD j =
      if j = i then gridRead s.grid (formatRow (side s) i) formatCol else s.rawsh.getLsbD j :=
  getLsbD_putBit s.rawsh i _ hj

/-- A collection step that is not the last goes on to the next position (40_format_demux.md R87). -/
theorem sequencerTurn_of_collect {s : State} {i : Fin 15} (hl : LegalSide (side s)) (hq : s.seq = .fmt i)
    (hi : i.val + 1 < 15) :
    sequencerTurn s = .next (withSeq (.fmt ⟨i.val + 1, hi⟩) (collectModule i s)) := by
  simp only [sequencerTurn, hq, formatStep, memRead_formatRow hl i.isLt, dif_pos hi]
  rfl

/-- The last collection step completes the read (40_format_demux.md R87, R88). -/
theorem sequencerTurn_of_lastCollect {s : State} (hl : LegalSide (side s)) (hq : s.seq = .fmt 14) :
    sequencerTurn s = completeFormat (collectModule 14 s) := by
  simp only [sequencerTurn, hq, formatStep, memRead_formatRow hl (Fin.isLt 14)]
  rfl

/-- Settles O20: the turn is one collection, and `putBit` writes the one bit. -/
theorem collectionStepReadsModule : Obligations.CollectionStepReadsModule := by
  intro s i hq hi hl
  exact ⟨(collectModule i s).rawsh, ⟨i.val + 1, by omega⟩, rfl, sequencerTurn_of_collect hl hq (by omega),
    fun _ hb => collectModule_getLsbD i s hb⟩

/-! ## The completion (40_format_demux.md R88) -/

/-- FMT ends with the read (40_format_demux.md R88). -/
theorem completeFormat_of_fmt {s : State} (hc : s.cmdl = .fmt) :
    completeFormat s = .next (endCommand (publishRead s)) := by
  simp only [completeFormat, hc]

/-- RUN begins its scan with the read (44_control_commands.md R162). -/
theorem completeFormat_of_run {s : State} (hc : s.cmdl = .run) :
    completeFormat s = .next (beginScan (publishRead s)) := by
  simp only [completeFormat, hc]

/-- What is published, from RAWSH as a number (40_format_demux.md R88, R89). -/
theorem publishRead_eq (s : State) :
    publishRead s = publishFormat s.rawsh (s.rawsh ^^^ 0x5412#15) (infoMid (s.rawsh ^^^ 0x5412#15)) s := by
  rw [publishRead, maskIdBits_eq_infoMid (unmask_bitsLow_length _), packHigh_unmask]

/-- Bit `14 - j` of 0x5412 is `key[j]` (40_format_demux.md R84, R89). -/
theorem keyWord_getLsbD : ∀ j < 15, (0x5412#15).getLsbD (14 - j) = keyBits.getD j false := by decide

/-- Settles O21: the last module is collected and the words are published; FMT then ends, RUN begins its scan. -/
theorem formatReadCompletes : Obligations.FormatReadCompletes := by
  intro s hq hl
  let x := (collectModule 14 s).rawsh
  refine ⟨x, x ^^^ 0x5412#15, fun b hb => ?_, fun j hj => ?_, fun hc => ?_, fun hc => ?_⟩
  · rw [collectModule_getLsbD 14 s hb, formatRow_at_edge _ (by decide) (by decide)]
    rfl
  · rw [BitVec.getLsbD_xor, keyWord_getLsbD j hj]
  · rw [sequencerTurn_of_lastCollect hl hq, completeFormat_of_fmt (s := collectModule 14 s) hc, publishRead_eq]
    rfl
  · rw [sequencerTurn_of_lastCollect hl hq, completeFormat_of_run (s := collectModule 14 s) hc, publishRead_eq]
    rfl

/-! ## The modules collected so far, under every move (40_format_demux.md R82) -/

/-- Where no format read is in progress, the format invariant asks nothing. -/
theorem formatInv_of_not_fmt {s : State} (hq : ∀ i, s.seq ≠ .fmt i) : FormatInv s :=
  fun i hi => absurd hi (hq i)

/-- Before its first collection step a format read has collected nothing (40_format_demux.md R86). -/
theorem formatInv_of_first {s : State} (hq : s.seq = .fmt 0) : FormatInv s := by
  intro i hi j hj
  obtain rfl : 0 = i := by simpa [hq] using hi
  exact absurd hj j.not_lt_zero

/-- The walk goes on to a cell or to its end, never to a format read (43_data_scanner.md R144). -/
theorem afterVisit_ne_fmt (n k : Nat) (i : Fin 15) : afterVisit n k ≠ .fmt i := by
  rcases afterVisit_cases n k with ⟨-, h⟩ | ⟨-, h⟩ <;> simp [h]

/-- A collection step adds the module at its index to those collected (40_format_demux.md R87). -/
theorem FormatInv.collect {s : State} {i : Fin 15} (h : FormatInv s) (hq : s.seq = .fmt i) (hi : i.val + 1 < 15) :
    FormatInv (withSeq (.fmt ⟨i.val + 1, hi⟩) (collectModule i s)) := by
  intro i' hi' j hj
  obtain rfl : ⟨i.val + 1, hi⟩ = i' := by simpa using hi'
  have hj : j < i.val + 1 := hj
  rw [withSeq_rawsh, collectModule_getLsbD _ _ (by omega)]
  split
  case isTrue hji =>
    subst hji
    rfl
  case isFalse hji => exact h i hq j (by omega)

/-- A command accepted by an idle block has collected nothing yet (40_format_demux.md R86). -/
theorem exec_formatInv {i : Instr} {s t : State} (hidle : s.seq = .idle) (h : exec i s = .next t) :
    FormatInv t := by
  rcases exec_next h with ⟨-, rfl⟩ | ⟨-, -, rfl⟩ | ⟨-, -, rfl⟩ | ⟨-, -, rfl⟩ | ⟨-, -, rfl⟩ | ⟨-, -, -, rfl⟩ |
    ⟨-, -, -, -, rfl⟩
  case inr.inr.inl | inr.inr.inr.inr.inl => exact formatInv_of_first rfl
  case inr.inr.inr.inl => exact formatInv_of_not_fmt (by simp)
  all_goals exact formatInv_of_idle hidle

/-- Every move keeps the format invariant: only a collection step leads on in a format read, and an idle block's store
and SIZE are not looked at. -/
theorem FormatInv.move {s t : State} (hi : ControlInv s) (hf : FormatInv s) (hm : Move s t) : FormatInv t := by
  cases hm with
  | stay => exact hf
  | collect hq hlt hr => exact hf.collect hq hlt
  | completeFmt hq hc => exact formatInv_of_idle rfl
  | completeRun hq hc => exact formatInv_of_not_fmt (by simp)
  | skip hq hk hs => exact formatInv_of_not_fmt (afterVisit_ne_fmt _ _)
  | noSymbol ho => exact hf.sameBlock (sameBlock_withRet _ _)
  | emit hq hk hs => exact formatInv_of_not_fmt (afterVisit_ne_fmt _ _)
  | finish hq => exact formatInv_of_idle rfl
  | reset => exact formatInv_of_idle rfl
  | read n => exact hf.sameBlock (sameBlock_withRet _ _)
  | writeReg n v hb =>
    rw [writeReg_eq]
    exact formatInv_of_idle (hi.seq_of_idle hb)
  | writeCell r c b hb =>
    have hq := hi.seq_of_idle hb
    rcases writeCell_cases r c b s with h | ⟨-, h⟩ <;> rw [h] <;> exact formatInv_of_idle hq
  | illegal hb => exact formatInv_of_idle (hi.seq_of_idle hb)
  | command i hb he => exact exec_formatInv (hi.seq_of_idle hb) he

/-- Settles O22: a step is one move but for what the model keeps for the host, and every move keeps the invariant. -/
theorem formatInvKept : Obligations.FormatInvKept := by
  intro s t hi hf h
  obtain ⟨u, v, hsu, hm, hvt⟩ := step_move h
  exact ((hf.sameBlock hsu).move (hi.sameBlock hsu) hm).sameBlock hvt

/-! ## FMT from its acceptance to its end (40_format_demux.md R86 to R88, R92) -/

/-- During a format read the default order gives the sequencer the turn (log 5). -/
theorem step_of_fmt {s : State} {i : Fin 15} (hq : s.seq = .fmt i) (ht : s.turns = []) :
    step s = sequencerTurn s := by
  have hn : nextAgent s = .sequencer := by simp [nextAgent, ht, sequencerCanMove, hq]
  simp only [step, takeTurn, hn, dropTurn_of_nil ht]

/-- With no turn listed an idle block leaves the turn to the host (log 5). -/
theorem nextAgent_of_idle {s : State} (hq : s.seq = .idle) (ht : s.turns = []) : nextAgent s = .host := by
  simp [nextAgent, ht, sequencerCanMove, hq]

/-- A format read that stands at position `i` with `x` in RAWSH. -/
def collecting (i : Fin 15) (x : FormatWord) (s : State) : State := { s with rawsh := x, seq := .fmt i }

/-- After `k` collection steps the read stands at position `k`, the modules before it are in RAWSH, and nothing else has
changed (40_format_demux.md R87). -/
theorem runFor_collect {s : State} (hl : LegalSide (side s)) (hq : s.seq = .fmt 0) (ht : s.turns = []) :
    ∀ (k : Nat) (hk : k < 15),
      ∃ x, runFor k s = .next (collecting ⟨k, hk⟩ x s) ∧ FormatInv (collecting ⟨k, hk⟩ x s)
  | 0, hk => by
    have hstart : collecting ⟨0, hk⟩ s.rawsh s = s := congrArg (fun q => withSeq q s) hq.symm
    exact ⟨s.rawsh, by rw [hstart, runFor_zero], formatInv_of_first rfl⟩
  | k + 1, hk => by
    obtain ⟨x, hrun, hf⟩ := runFor_collect hl hq ht k (by omega)
    let t := collecting ⟨k, by omega⟩ x s
    have hturn : sequencerTurn t = .next (collecting ⟨k + 1, hk⟩ (collectModule k t).rawsh s) :=
      sequencerTurn_of_collect (s := t) hl rfl hk
    exact ⟨_, runFor_add hrun (runFor_one ((step_of_fmt (s := t) rfl ht).trans hturn)), hf.collect rfl hk⟩

/-- When the last module is read, RAWSH holds the fifteen bits of the grid (40_format_demux.md R82). -/
theorem FormatInv.collect_last {s : State} (h : FormatInv s) (hq : s.seq = .fmt 14) :
    collectModule 14 s = { s with rawsh := packLow 15 (formatInfo s.grid (side s)).raw } := by
  have hraw : (collectModule 14 s).rawsh = packLow 15 (rawBits s.grid (side s)) := by
    apply BitVec.eq_of_getLsbD_eq
    intro j hj
    rw [collectModule_getLsbD 14 s hj, getLsbD_packLow _ hj, rawBits_getD _ _ hj]
    split
    case isTrue h14 => rw [h14]
    case isFalse h14 => exact h 14 hq j (show j < 14 by omega)
  exact congrArg (fun x => { s with rawsh := x }) hraw

/-- With the bits of a grid in RAWSH, a read publishes its `formatInfo` (40_format_demux.md R80, R88). -/
theorem publishRead_of_rawBits (g : Memory) (n : Nat) (s : State) :
    publishRead { s with rawsh := packLow 15 (formatInfo g n).raw } =
      { s with rawsh := packLow 15 (formatInfo g n).raw, fmtraw := packLow 15 (formatInfo g n).raw,
               fmtinfo := packHigh 15 (formatInfo g n).f, mask := (formatInfo g n).mid, fmtv := true } := by
  have hbits : bitsLow (packLow 15 (formatInfo g n).raw) = rawBits g n := rawBits_length g n ▸ bitsLow_packLow
  rw [publishRead, hbits]
  rfl

/-- From FMT(0) of a FMT fifteen steps end the command with `formatInfo(G, N)` in the registers (40_format_demux.md
R87, R88). -/
theorem runFor_formatRead {s : State} (hl : LegalSide (side s)) (hq : s.seq = .fmt 0) (ht : s.turns = [])
    (hc : s.cmdl = .fmt) :
    runFor 15 s = .next
      { s with busy := false, done := true, seq := .idle, fmtv := true,
               rawsh := packLow 15 (formatInfo s.grid (side s)).raw,
               fmtraw := packLow 15 (formatInfo s.grid (side s)).raw,
               fmtinfo := packHigh 15 (formatInfo s.grid (side s)).f,
               mask := (formatInfo s.grid (side s)).mid } := by
  obtain ⟨x, hrun, hf⟩ := runFor_collect hl hq ht 14 (by decide)
  let t := collecting ⟨14, by decide⟩ x s
  have hlast : step t = .next (endCommand (publishRead (collectModule 14 t))) := by
    rw [step_of_fmt (s := t) rfl ht, sequencerTurn_of_lastCollect (s := t) hl rfl,
      completeFormat_of_fmt (s := collectModule 14 t) hc]
  rw [FormatInv.collect_last (s := t) hf rfl, publishRead_of_rawBits] at hlast
  exact runFor_add hrun (runFor_one hlast)

/-- The step of a host whose next line is FMT, at an idle block with no turn listed (40_format_demux.md R86). -/
theorem step_of_fmtLine {s : State} {rest : List HostLine} (hq : s.seq = .idle) (hb : s.busy = false)
    (hl : LegalSide (side s)) (ht : s.turns = []) (hline : s.hostq = commandLine .fmt :: rest) :
    step s = .next (beginFormat (latchCommand .fmt (clearReport (withRet .nothing (withHostq rest s))))) := by
  have haccept := stepRunsDecodedCommand s _ rest .fmt (nextAgent_of_idle hq ht) hline hb (by decide)
  rw [← lineDone_eq, lineDone, dropTurn_of_nil ht] at haccept
  exact haccept.trans (fmtAccepted _ hl)

/-- Settles O23: the acceptance, and from there the fifteen collection steps. -/
theorem fmtDeliversFormatInfo : Obligations.FmtDeliversFormatInfo := by
  intro s rest hq hb hl ht hline
  let accepted := beginFormat (latchCommand .fmt (clearReport (withRet .nothing (withHostq rest s))))
  have hread := runFor_formatRead (s := accepted) hl rfl ht rfl
  rw [runFor_succ (step_of_fmtLine hq hb hl ht hline), hread, hq, hb]
  rfl

end Sys2Proof.Machine
end

section
/-! The mask ROM: its table of formulas, and what the formulas of masks 4 to 7 come to. -/

namespace Sys2Proof.Machine

/-! ## The table (41_mask_rom.md R101) -/

/-- Settles O24: each mask id selects one equality test, and the test is the formula of its row. -/
theorem maskTable : Obligations.MaskTable := by
  intro r c
  exact ⟨beq_iff_eq, beq_iff_eq, beq_iff_eq, beq_iff_eq, beq_iff_eq, beq_iff_eq, beq_iff_eq, beq_iff_eq⟩

/-! ## The formulas over the natural numbers (41_mask_rom.md R106 to R109, R111) -/

/-- Mask 4: a sum of natural numbers is 0 only when both terms are (41_mask_rom.md R106). -/
theorem div_two_add_parity_eq_zero_iff (r c : Nat) : r / 2 + c / 3 % 2 = 0 ↔ r ≤ 1 ∧ c % 6 < 3 := by
  have hrow : r / 2 = 0 ↔ r ≤ 1 := by omega
  have hcol : c / 3 % 2 = 0 ↔ c % 6 < 3 := by omega
  rw [Nat.add_eq_zero_iff, hrow, hcol]

/-- The sum of masks 5 and 6 depends on the product modulo 6 only (41_mask_rom.md R107, R108). -/
theorem mod_two_add_mod_three_eq (p : Nat) : p % 2 + p % 3 = p % 6 % 2 + p % 6 % 3 := by
  rw [Nat.mod_mod_of_dvd p (by decide : 2 ∣ 6), Nat.mod_mod_of_dvd p (by decide : 3 ∣ 6)]

/-- The six values of that sum: where it is 0, and where it is even (41_mask_rom.md R107, R108). -/
theorem residue_sum_table :
    ∀ q < 6, (q % 2 + q % 3 = 0 ↔ q = 0) ∧ ((q % 2 + q % 3) % 2 = 0 ↔ q < 3) := by decide

/-- Mask 7: of the four pairs of parities, only even with even passes (41_mask_rom.md R109). -/
theorem parity_mul_add_parity_add_iff (r c : Nat) :
    (r * c % 2 + (r + c) % 2) % 2 = 0 ↔ r % 2 = 0 ∧ c % 2 = 0 := by
  rw [Nat.mul_mod, Nat.add_mod r c]
  rcases Nat.mod_two_eq_zero_or_one r with hr | hr <;>
    rcases Nat.mod_two_eq_zero_or_one c with hc | hc <;> simp [hr, hc]

/-- Settles O25: each row of the table, followed by what its formula comes to. -/
theorem maskClosedForms : Obligations.MaskClosedForms := by
  intro r c
  obtain ⟨-, -, -, -, h4, h5, h6, h7⟩ := maskTable r c
  obtain ⟨hzero, heven⟩ := residue_sum_table (r * c % 6) (Nat.mod_lt _ (by decide))
  rw [← mod_two_add_mod_three_eq] at hzero heven
  exact ⟨h4.trans (div_two_add_parity_eq_zero_iff r c), h5.trans hzero, h6.trans heven,
    h7.trans (parity_mul_add_parity_add_iff r c)⟩

end Sys2Proof.Machine
end

section
/-! The classifier: its five tests over the integers, and how many cells of a grid it takes. -/

namespace Sys2Proof.Machine

/-! ## The five tests (42_function_pattern_classifier.md R121, R126) -/

section Tests
variable (h w r c : Nat)

/-- P1 with the source's subtraction. -/
theorem inTopRight_iff : inTopRight w r c = true ↔ (w : Int) - 8 ≤ c ∧ r ≤ 8 := by
  simp only [inTopRight, Bool.and_eq_true, decide_eq_true_eq]
  omega

/-- P2 with the source's subtractions. -/
theorem inAlignmentBox_iff :
    inAlignmentBox h w r c = true ↔
      (w : Int) - 9 ≤ c ∧ (c : Int) ≤ w - 5 ∧ (h : Int) - 9 ≤ r ∧ (r : Int) ≤ h - 5 := by
  simp only [inAlignmentBox, Bool.and_eq_true, decide_eq_true_eq]
  omega

/-- P3, which subtracts nothing. -/
theorem onTiming_iff : onTiming r c = true ↔ r = 6 ∨ c = 6 := by
  simp only [onTiming, Bool.or_eq_true, beq_iff_eq]

/-- P4, which subtracts nothing. -/
theorem inTopLeft_iff : inTopLeft r c = true ↔ c ≤ 8 ∧ r ≤ 8 := by
  simp only [inTopLeft, Bool.and_eq_true, decide_eq_true_eq]

/-- P5 with the source's subtraction. -/
theorem inBottomLeft_iff : inBottomLeft h r c = true ↔ c ≤ 8 ∧ (h : Int) - 7 ≤ r := by
  simp only [inBottomLeft, Bool.and_eq_true, decide_eq_true_eq]
  omega

end Tests

/-- Settles O26: the five tests one by one. -/
theorem classifierTests : Obligations.ClassifierTests := by
  intro h w r c
  simp only [isFunctionPattern, Bool.or_eq_true, inTopRight_iff, inAlignmentBox_iff, onTiming_iff, inTopLeft_iff,
    inBottomLeft_iff, or_assoc]

/-! ## The data cells of the grid, column by column (42_function_pattern_classifier.md R124) -/

/-- A count is a sum of ones and zeros. -/
theorem countP_eq_sum_ite (p : Nat → Bool) (l : List Nat) :
    l.countP p = (l.map fun r => if p r then 1 else 0).sum := by
  induction l with
  | nil => rfl
  | cons r l ih => rw [List.countP_cons, ih, List.map_cons, List.sum_cons, Nat.add_comm]

/-- The cells of the grid may be counted column by column instead of row by row. -/
theorem countP_allCells (n : Nat) (p : Nat × Nat → Bool) :
    (allCells n).countP p = ∑ c ∈ Finset.range n, (List.range n).countP fun r => p (r, c) := by
  have sum_range (f : Nat → Nat) : ((List.range n).map f).sum = ∑ i ∈ Finset.range n, f i := rfl
  simp only [allCells, List.countP_flatMap, List.countP_map, Function.comp_def, countP_eq_sum_ite, sum_range]
  exact Finset.sum_comm

/-- The column of the vertical timing pattern has no data cell. -/
theorem dataRows_timing (n : Nat) : dataRows n 6 = 0 := by
  refine List.countP_eq_zero.2 fun r _ hdata => ?_
  obtain ⟨-, -, -, hcol, -⟩ := (not_isFunctionPattern_iff n r 6).1 hdata
  exact hcol rfl

/-- Columns with equally many data cells, summed up. -/
theorem sum_dataRows_Ico {n a b k : Nat} (h : ∀ c, a ≤ c → c < b → dataRows n c = k) :
    ∑ c ∈ Finset.Ico a b, dataRows n c = (b - a) * k := by
  rw [← Nat.card_Ico]
  refine Finset.sum_const_nat fun c hc => ?_
  obtain ⟨hlo, hhi⟩ := Finset.mem_Ico.1 hc
  exact h c hlo hhi

/-- The columns 0 to 8: those of the left finders, among them the timing column. -/
theorem sum_dataRows_left {n : Nat} (hn : 21 ≤ n) :
    ∑ c ∈ Finset.range 9, dataRows n c = 8 * (n - 16) := by
  have before : ∑ c ∈ Finset.Ico 0 6, dataRows n c = (6 - 0) * (n - 16) :=
    sum_dataRows_Ico fun c _ hhi => dataRows_left hn (by omega) (by omega)
  have after : ∑ c ∈ Finset.Ico 7 9, dataRows n c = (9 - 7) * (n - 16) :=
    sum_dataRows_Ico fun c hlo hhi => dataRows_left hn (by omega) (by omega)
  rw [Finset.range_eq_Ico, ← Finset.sum_Ico_consecutive _ (by decide : 0 ≤ 7) (by decide : 7 ≤ 9),
    Finset.sum_Ico_succ_top (by decide : 0 ≤ 6), before, after, dataRows_timing]
  omega

/-- The last nine columns: those of the alignment box and those right of it. -/
theorem sum_dataRows_right {n : Nat} (hn : 21 ≤ n) :
    ∑ c ∈ Finset.Ico (n - 9) n, dataRows n c = 9 * n - 98 := by
  have box : ∑ c ∈ Finset.Ico (n - 9 + 1) (n - 4), dataRows n c = (n - 4 - (n - 9 + 1)) * (n - 14) :=
    sum_dataRows_Ico fun c hlo hhi => dataRows_box hn (by omega) (by omega)
  have right : ∑ c ∈ Finset.Ico (n - 4) n, dataRows n c = (n - (n - 4)) * (n - 9) :=
    sum_dataRows_Ico fun c hlo hhi => dataRows_right hn (by omega) hhi
  have boxWidth : n - 4 - (n - 9 + 1) = 4 := by omega
  have rightWidth : n - (n - 4) = 4 := by omega
  rw [← Finset.sum_Ico_consecutive _ (by omega : n - 9 ≤ n - 4) (by omega : n - 4 ≤ n),
    Finset.sum_eq_sum_Ico_succ_bot (by omega : n - 9 < n - 4), dataRows_box_first hn (by omega), box, right, boxWidth,
    rightWidth]
  omega

/-- 42_function_pattern_classifier.md R124: the data cells of a grid. -/
theorem countP_dataCells {n : Nat} (hn : 21 ≤ n) :
    (allCells n).countP (fun cell => !isFunctionPattern n n cell.1 cell.2) = n * n - 2 * n - 208 := by
  have middle : ∑ c ∈ Finset.Ico 9 (n - 9), dataRows n c = (n - 9 - 9) * (n - 1) :=
    sum_dataRows_Ico fun c hlo hhi => dataRows_middle hlo (by omega)
  calc (allCells n).countP (fun cell => !isFunctionPattern n n cell.1 cell.2)
      = ∑ c ∈ Finset.range n, dataRows n c := countP_allCells n _
    _ = 8 * (n - 16) + (n - 9 - 9) * (n - 1) + (9 * n - 98) := by
      rw [← Finset.sum_range_add_sum_Ico _ (by omega : n - 9 ≤ n),
        ← Finset.sum_range_add_sum_Ico _ (by omega : 9 ≤ n - 9), sum_dataRows_left hn, middle, sum_dataRows_right hn]
    _ = n * n - 2 * n - 208 := by
      obtain ⟨m, rfl⟩ := Nat.exists_eq_add_of_le' hn
      have hsquare : (m + 21) * (m + 21) = m * m + 42 * m + 441 := by ring
      have hmiddle : (m + 21 - 9 - 9) * (m + 21 - 1) = m * m + 23 * m + 60 := by
        rw [show m + 21 - 9 - 9 = m + 3 from rfl, show m + 21 - 1 = m + 20 from rfl]
        ring
      omega

/-- An `n` by `n` grid has `n * n` cells. -/
theorem length_allCells (n : Nat) : (allCells n).length = n * n := by
  simp [allCells, List.length_flatMap]

/-- Settles O27: the data cells by columns, and the function patterns as the rest of the grid. -/
theorem classifierCounts : Obligations.ClassifierCounts := by
  rintro n ⟨hn, -, -⟩
  have hdata := countP_dataCells hn
  have hall := List.length_eq_countP_add_countP (fun cell => isFunctionPattern n n cell.1 cell.2) (l := allCells n)
  have hsquare : 21 * n ≤ n * n := Nat.mul_le_mul_right n hn
  simp only [Bool.not_eq_true, Bool.decide_eq_false, length_allCells] at hall
  rw [← List.countP_eq_length_filter, ← List.countP_eq_length_filter]
  omega

end Sys2Proof.Machine
end

section
/-! The walk of a scan: its columns, its cells, and that it lists each of them once. -/

namespace Sys2Proof.Machine

/-! ## The columns (43_data_scanner.md R136, R139) -/

/-- Settles O28: the closed form of the column loop, and the length it has. -/
theorem columnSequence : Obligations.ColumnSequence := by
  intro n h
  refine ⟨colseq_eq h, ?_⟩
  rw [colseq_eq h, List.length_append, List.length_map, List.length_range]
  rfl

/-- A column whose number is a multiple of 4 is walked upward (43_data_scanner.md R138). -/
theorem rowsOf_upward (n : Nat) {col : Nat} (h : col % 4 = 0) : rowsOf n col = (List.range n).reverse := if_pos h

/-- Every other column is walked downward (43_data_scanner.md R138). -/
theorem rowsOf_downward (n : Nat) {col : Nat} (h : col % 4 ≠ 0) : rowsOf n col = List.range n := if_neg h

/-- Settles O29: pair `p` starts `2 * p` columns left of a multiple of 4. -/
theorem pairDirections : Obligations.PairDirections := by
  intro n h
  refine ⟨fun p hp => ⟨colAt n p, ?_, ?_⟩, rowsOf_upward n rfl, rowsOf_downward n (by decide),
    rowsOf_downward n (by decide)⟩
  · rw [colseq_getElem? h, if_pos (by omega)]
  · obtain ⟨hlo, -, hmod⟩ := h
    rw [colAt, if_pos hp]
    split
    case isTrue hup => exact rowsOf_upward n (by omega)
    case isFalse hdown => exact rowsOf_downward n (by omega)

/-- The columns at which a pair starts (43_data_scanner.md R136). -/
theorem mem_colseq_iff {n : Nat} (h : LegalSide n) (col : Nat) :
    col ∈ colseq n ↔ (8 ≤ col ∧ col < n ∧ col % 2 = 0) ∨ col = 5 ∨ col = 3 := by
  rw [colseq_eq h]
  obtain ⟨hlo, -, hmod⟩ := h
  simp only [List.mem_append, List.mem_map, List.mem_range, List.mem_cons, List.not_mem_nil, or_false]
  refine or_congr_left ⟨?_, fun hcol => ⟨(n - 1 - col) / 2, ?_, ?_⟩⟩ <;> omega

/-- From one pair to the next the columns fall by at least 2 (43_data_scanner.md R136). -/
theorem colseq_falls {n : Nat} (h : LegalSide n) : (colseq n).Pairwise fun col next => next + 2 ≤ col := by
  rw [colseq_eq h, List.pairwise_append, List.pairwise_map]
  obtain ⟨hlo, -, hmod⟩ := h
  refine ⟨List.pairwise_lt_range.imp_of_mem fun hp hq hpq => ?_, by simp, fun col hcol next hnext => ?_⟩
  · rw [List.mem_range] at hp hq
    omega
  · obtain ⟨p, hp, rfl⟩ := List.mem_map.1 hcol
    rw [List.mem_range] at hp
    simp only [List.mem_cons, List.not_mem_nil, or_false] at hnext
    omega

/-! ## The cells (43_data_scanner.md R137, R140) -/

/-- A pair of columns has every row of both (43_data_scanner.md R140). -/
theorem mem_columnPair_iff (n col r c : Nat) : (r, c) ∈ columnPair n col ↔ r < n ∧ (c = col ∨ c = col - 1) := by
  simp only [columnPair, List.mem_flatMap, (rowsOf_perm n col).mem_iff, List.mem_range, List.mem_cons,
    List.not_mem_nil, or_false, Prod.mk.injEq, ← and_or_left]
  exact ⟨fun ⟨_, hrow, hr, hc⟩ => ⟨hr ▸ hrow, hc⟩, fun ⟨hr, hc⟩ => ⟨r, hr, rfl, hc⟩⟩

/-- Settles O31: the pairs at 8 and the even columns above it cover columns 7 to `N-1`, the last two 2 to 5. -/
theorem visitedColumns : Obligations.VisitedColumns := by
  intro n h r c
  rw [visit_eq_flatMap, List.mem_flatMap]
  simp only [mem_columnPair_iff, mem_colseq_iff h]
  obtain ⟨hlo, -, hmod⟩ := h
  constructor
  · rintro ⟨col, hcol, hr, hc⟩
    omega
  · rintro ⟨hr, hc, h0, h1, h6⟩
    have hfirst : ∃ col, ((8 ≤ col ∧ col < n ∧ col % 2 = 0) ∨ col = 5 ∨ col = 3) ∧ (c = col ∨ c = col - 1) := by
      by_cases hleft : c ≤ 5
      · exact ⟨if c ≤ 3 then 3 else 5, by split <;> omega, by split <;> omega⟩
      · exact ⟨c + c % 2, by omega, by omega⟩
    obtain ⟨col, hcol, hc⟩ := hfirst
    exact ⟨col, hcol, hr, hc⟩

/-- The walk has `N*(N-3)` cells (43_data_scanner.md R140): its elements are known, and there is none beyond. -/
theorem visit_length {n : Nat} (h : LegalSide n) : (visit n).length = visitLength n := by
  refine eq_of_forall_ge_iff fun k => ?_
  rw [← List.getElem?_eq_none_iff, visit_getElem? h]
  simp

/-- Settles O30: the walk is its closed form, and its cells are those of the visited columns. -/
theorem visitClosedForm : Obligations.VisitClosedForm := by
  intro n h
  refine ⟨visit_length h, fun k hk => ?_, fun (r, c) hcell => ?_⟩
  · rw [visit_getElem? h]
    exact if_pos hk
  · obtain ⟨hr, hc, h0, h1, -⟩ := (visitedColumns n h r c).1 hcell
    exact ⟨hr, show 2 ≤ c by omega, show c ≤ n - 1 by omega⟩

/-! ## No cell twice (43_data_scanner.md R142) -/

/-- A pair of two different columns lists each of its cells once. -/
theorem columnPair_nodup (n : Nat) {col : Nat} (hcol : 0 < col) : (columnPair n col).Nodup := by
  have hrows : (rowsOf n col).Nodup := (rowsOf_perm n col).nodup_iff.2 List.nodup_range
  have hdiff : col ≠ col - 1 := by omega
  exact List.nodup_flatMap.2 ⟨fun row _ => by simp [hdiff], hrows.imp fun hrow => by simp [Function.onFun, hrow.symm]⟩

/-- Pairs that start two columns apart or more have no cell in common. -/
theorem columnPair_disjoint (n : Nat) {col next : Nat} (h : next + 2 ≤ col) :
    List.Disjoint (columnPair n col) (columnPair n next) := by
  rintro ⟨r, c⟩ hcol hnext
  obtain ⟨-, hcol⟩ := (mem_columnPair_iff n col r c).1 hcol
  obtain ⟨-, hnext⟩ := (mem_columnPair_iff n next r c).1 hnext
  omega

/-- The walk lists each of its cells once: each pair does, and no two pairs share a column. -/
theorem visit_nodup {n : Nat} (h : LegalSide n) : (visit n).Nodup := by
  rw [visit_eq_flatMap, List.nodup_flatMap]
  refine ⟨fun col hcol => columnPair_nodup n ?_, (colseq_falls h).imp (columnPair_disjoint n)⟩
  rw [mem_colseq_iff h] at hcol
  omega

/-- Which cells are scanned (43_data_scanner.md R142). -/
theorem mem_order_iff {n : Nat} (h : LegalSide n) (r c : Nat) :
    (r, c) ∈ order n ↔ r < n ∧ c < n ∧ c ≠ 0 ∧ c ≠ 1 ∧ c ≠ 6 ∧ isFunctionPattern n n r c = false := by
  simp only [order, List.mem_filter, visitedColumns n h r c, isSkipped, Bool.not_eq_true', and_assoc]

/-- Settles O32: the walk has no cell twice, and `order(N)` is a part of it. -/
theorem orderListsEachCellOnce : Obligations.OrderListsEachCellOnce :=
  fun _ h => ⟨visit_nodup h, (visit_nodup h).filter _, mem_order_iff h⟩

/-! ## What a scan reads (43_data_scanner.md R148) -/

/-- Settles O42: a bit of the scan depends on the module of its own cell only, and the cells are those of `order(N)`. -/
theorem scanReadsVisitedDataCellsOnly : Obligations.ScanReadsVisitedDataCellsOnly := by
  intro g g' n m h hagree
  have hbits : scanBits g n m = scanBits g' n m := by
    refine List.map_congr_left fun (r, c) hcell => ?_
    obtain ⟨hr, hc, h0, h1, h6, hdata⟩ := (mem_order_iff h r c).1 hcell
    rw [scanBit, scanBit, hagree r c hr (by omega) hc h6 hdata]
  rw [scanSymbols, scanSymbols, hbits]

end Sys2Proof.Machine
end

section
/-! The stream while a scan runs: the bits of the first cells of the walk, an invariant of every move. -/

namespace Sys2Proof.Machine

/-! ## The bits of the first cells of the walk (43_data_scanner.md R149) -/

/-- Before the first cell there is no bit (43_data_scanner.md R143). -/
@[simp] theorem prefixBits_zero (g : Memory) (n : Nat) (m : MaskId) : prefixBits g n m 0 = [] := rfl

/-- One more cell of the walk: a function pattern adds nothing, a data cell its bit (43_data_scanner.md R144, R145). -/
theorem prefixBits_succ {n k : Nat} (g : Memory) (m : MaskId) (h : LegalSide n) (hk : k < visitLength n) :
    prefixBits g n m (k + 1) =
      prefixBits g n m k ++ if isSkipped n (visitAt n k) then [] else [scanBit g m (visitAt n k)] := by
  rw [prefixBits, List.take_add_one, visit_getElem? h, if_pos hk, List.filter_append, List.map_append]
  cases hs : isSkipped n (visitAt n k) <;> simp [prefixBits, hs]

/-- After the last cell they are all the bits of the scan (43_data_scanner.md R148). -/
theorem prefixBits_of_visitLength_le {n k : Nat} (g : Memory) (m : MaskId) (h : LegalSide n)
    (hk : visitLength n ≤ k) : prefixBits g n m k = scanBits g n m := by
  have hlen : (visit n).length ≤ k := (visit_length h).trans_le hk
  rw [prefixBits, List.take_of_length_le hlen, scanBits, order]

/-! ## The moves keep the stream invariant -/

/-- Where no scan runs, the stream invariant asks nothing. -/
theorem streamInv_of_not_scanRuns {s : State} (h : ¬ scanRuns s) : StreamInv s where
  at_scan := fun k hk => absurd (.inl ⟨k, hk⟩) h
  at_end := fun hq => absurd (.inr hq) h

/-- A scan begins with an empty BS (43_data_scanner.md R143). -/
theorem streamInv_of_beginScan (s : State) : StreamInv (beginScan s) where
  at_scan := by
    intro k hk
    obtain rfl : 0 = k := by simpa using hk
    rfl
  at_end := by simp

/-- After cell `k` BS holds the bits of the first `k + 1` cells, and the scan goes on to the next cell or to its end
(43_data_scanner.md R144, R145). -/
theorem streamInv_of_afterVisit {s : State} {k : Nat} (hl : LegalSide (side s))
    (hq : s.seq = afterVisit (side s) k)
    (hbs : s.bs = (prefixBits s.grid (side s) s.mask (k + 1)).map .data) : StreamInv s := by
  rcases afterVisit_cases (side s) k with ⟨-, hnext⟩ | ⟨hlast, hnext⟩ <;> rw [hnext] at hq
  · refine ⟨fun j hj => ?_, by simp [hq]⟩
    obtain rfl : k + 1 = j := by simpa [hq] using hj
    exact hbs
  · rw [prefixBits_of_visitLength_le _ _ hl hlast] at hbs
    exact ⟨by simp [hq], fun _ => hbs⟩

/-- A skipped cell adds nothing to BS (43_data_scanner.md R144). -/
theorem StreamInv.skip {s : State} {k : Nat} (hs : StreamInv s) (hl : LegalSide (side s)) (hq : s.seq = .scan k)
    (hk : k < visitLength (side s)) (hskip : isSkipped (side s) (visitAt (side s) k) = true) :
    StreamInv (withSeq (afterVisit (side s) k) s) := by
  refine streamInv_of_afterVisit (k := k) hl rfl ?_
  simp [prefixBits_succ _ _ hl hk, hskip, hs.at_scan k hq]

/-- A data cell adds its bit to BS (43_data_scanner.md R145, R146). -/
theorem StreamInv.emit {s : State} {k : Nat} (hs : StreamInv s) (hl : LegalSide (side s)) (hq : s.seq = .scan k)
    (hk : k < visitLength (side s)) (hdata : isSkipped (side s) (visitAt (side s) k) = false) :
    StreamInv (withSeq (afterVisit (side s) k)
      (countBit (emitSymbol (.data (scanBit s.grid s.mask (visitAt (side s) k))) s))) := by
  refine streamInv_of_afterVisit (k := k) hl rfl ?_
  simp [prefixBits_succ _ _ hl hk, hdata, hs.at_scan k hq]

/-- A command accepted by an idle block has emitted nothing of a scan yet (43_data_scanner.md R143). -/
theorem exec_streamInv {i : Instr} {s t : State} (hidle : s.seq = .idle) (h : exec i s = .next t) :
    StreamInv t := by
  rcases exec_next h with ⟨-, rfl⟩ | ⟨-, -, rfl⟩ | ⟨-, -, rfl⟩ | ⟨-, -, rfl⟩ | ⟨-, -, rfl⟩ | ⟨-, -, -, rfl⟩ |
    ⟨-, -, -, -, rfl⟩
  case inr.inr.inl | inr.inr.inr.inr.inl => exact streamInv_of_not_scanRuns (by simp [scanRuns])
  case inr.inr.inr.inl => exact streamInv_of_beginScan _
  all_goals exact streamInv_of_idle hidle

/-- Every move keeps the stream invariant: a visit adds the bit of its cell, and the grid, SIZE and MASK, on which the
bits depend, are written only while no scan runs. -/
theorem StreamInv.move {s t : State} (hi : ControlInv s) (hs : StreamInv s) (hm : Move s t) : StreamInv t := by
  cases hm with
  | stay => exact hs
  | collect hq hlt hr => exact streamInv_of_not_scanRuns (by simp [scanRuns])
  | completeFmt hq hc => exact streamInv_of_idle rfl
  | completeRun hq hc => exact streamInv_of_beginScan _
  | skip hq hk hskip => exact hs.skip (hi.legalSide (by simp [hq])) hq hk hskip
  | noSymbol ho => exact hs.sameBlock (sameBlock_withRet _ _)
  | emit hq hk hdata => exact hs.emit (hi.legalSide (by simp [hq])) hq hk hdata
  | finish hq => exact streamInv_of_idle rfl
  | reset => exact streamInv_of_idle rfl
  | read n => exact hs.sameBlock (sameBlock_withRet _ _)
  | writeReg n v hb =>
    rw [writeReg_eq]
    exact streamInv_of_idle (hi.seq_of_idle hb)
  | writeCell r c b hb =>
    have hq := hi.seq_of_idle hb
    rcases writeCell_cases r c b s with h | ⟨-, h⟩ <;> rw [h] <;> exact streamInv_of_idle hq
  | illegal hb => exact streamInv_of_idle (hi.seq_of_idle hb)
  | command i hb he => exact exec_streamInv (hi.seq_of_idle hb) he

/-- Settles O39: a step is one move but for what the model keeps for the host, and every move keeps the invariant. -/
theorem streamInvKept : Obligations.StreamInvKept := by
  intro s t hi hs h
  obtain ⟨u, v, hsu, hm, hvt⟩ := step_move h
  exact ((hs.sameBlock hsu).move (hi.sameBlock hsu) hm).sameBlock hvt

end Sys2Proof.Machine
end

section
/-! The acceptance of SCAN, its step at a function pattern, a POP that returns nothing, and a scan nobody drains. -/

namespace Sys2Proof.Machine

/-! ## The acceptance (43_data_scanner.md R143) -/

/-- Settles O10: with a legal SIZE the acceptance goes on to SCAN's own rule. -/
theorem scanAccepted : Obligations.ScanAccepted := by
  intro s hl
  have hlegal : legalSize (side s) = true := (legalSize_iff_legalSide _).2 hl
  rw [exec, execScan, acceptSized_legal hlegal]
  rfl

/-! ## A POP that returns nothing (43_data_scanner.md R146) -/

/-- A `POP` changes nothing where no symbol is offered (43_data_scanner.md R146). -/
theorem popStep_of_noSymbol {s : State} (h : offered s = .ok none) : popStep s = .next (withRet .nothing s) := by
  simp only [popStep, h]

/-- Settles O37: neither an idle block nor a format read offers a symbol. -/
theorem popWithoutSymbol : Obligations.PopWithoutSymbol := by
  rintro s (hq | ⟨i, hq⟩)
  all_goals exact popStep_of_noSymbol (by simp only [offered, hq])

/-! ## A function pattern (43_data_scanner.md R144) -/

/-- At a function pattern the sequencer's own turn goes on with the walk (43_data_scanner.md R144). -/
theorem sequencerTurn_of_skipped {s : State} {k : Nat} (hq : s.seq = .scan k) (hk : k < visitLength (side s))
    (hskip : isSkipped (side s) (visitAt (side s) k) = true) :
    sequencerTurn s = .next (withSeq (afterVisit (side s) k) s) := by
  simp only [sequencerTurn, hq, scanStep, if_pos hk, if_pos hskip]

/-- At a function pattern no symbol is offered (43_data_scanner.md R146). -/
theorem offered_of_skipped {s : State} {k : Nat} (hq : s.seq = .scan k) (hk : k < visitLength (side s))
    (hskip : isSkipped (side s) (visitAt (side s) k) = true) : offered s = .ok none := by
  simp only [offered, hq, if_pos hk, if_pos hskip]

/-- Settles O34: the cell is the one the closed form names, and it is skipped. -/
theorem visitStepSkips : Obligations.VisitStepSkips := by
  intro s k r c hl hq hcell hfunction
  obtain ⟨hk, hvisit⟩ := visitAt_of_getElem? hl hcell
  have hskip : isSkipped (side s) (visitAt (side s) k) = true := by
    rw [side, hvisit]
    exact hfunction
  exact ⟨sequencerTurn_of_skipped hq hk hskip, popStep_of_noSymbol (offered_of_skipped hq hk hskip)⟩

/-! ## A scan nobody drains (43_data_scanner.md R146, 70_reset_and_hazards.md R240) -/

/-- The sequencer has a symbol to transfer: a scan is at a data cell or at its end (43_data_scanner.md R146). -/
def waitsForPop (s : State) : Prop :=
  (∃ k, s.seq = .scan k ∧ k < visitLength (side s) ∧ isSkipped (side s) (visitAt (side s) k) = false) ∨
  s.seq = .atEnd

/-- The line neither takes a symbol nor resets the block. -/
def leavesStream (l : HostLine) : Prop := l ≠ .op .pop ∧ l ≠ .drain ∧ l ≠ .reset

/-- A busy block waits for a `POP` that the host's lines do not hold (70_reset_and_hazards.md R240). -/
structure Undrained (s : State) : Prop where
  busy : s.busy = true
  waits : waitsForPop s
  lines : ∀ l ∈ s.hostq, leavesStream l

/-- The sequencer's own turn leaves a block that waits for a `POP` as it is (43_data_scanner.md R146, R147). -/
theorem sequencerTurn_of_waitsForPop {s : State} (h : waitsForPop s) : sequencerTurn s = .next s := by
  rcases h with ⟨k, hq, hk, hdata⟩ | hq
  · exact sequencerTurn_of_data hq hk hdata
  · exact sequencerTurn_of_atEnd hq

/-- An operation other than `POP` at a busy block changes nothing but the response (70_reset_and_hazards.md R238). -/
theorem performOp_of_busy {s : State} {o : HostOp} (hb : s.busy = true) (hpop : o ≠ .pop) :
    ∃ r, performOp o s = .next (withRet r s) := by
  cases o with
  | wr n v => exact ⟨.nothing, hostWrite_of_busy (s := withRet .nothing s) n v hb⟩
  | rd n => exact ⟨.word (readReg s n), rfl⟩
  | gw r c b => exact ⟨.nothing, congrArg _ (hostGridWrite_of_busy (s := withRet .nothing s) r c b hb)⟩
  | pop => exact absurd rfl hpop

/-- A host turn at a busy block that performs no `POP` and no reset changes nothing of the block, and none of the lines
that are left takes a symbol or resets (70_reset_and_hazards.md R238, log 7). -/
theorem hostTurn_of_leavesStream {s : State} (hb : s.busy = true) (hlines : ∀ l ∈ s.hostq, leavesStream l) :
    ∃ q r, hostTurn s = .next (withRet r (withHostq q s)) ∧ ∀ l ∈ q, leavesStream l := by
  cases hq : s.hostq with
  | nil =>
    have hturn : hostTurn s = .next s := by simp only [hostTurn, hq]
    exact ⟨s.hostq, s.ret, hturn, hlines⟩
  | cons l rest =>
    obtain ⟨⟨hpop, hdrain, hreset⟩, hrest⟩ := List.forall_mem_cons.1 (hq ▸ hlines)
    cases l with
    | op o =>
      obtain ⟨r, hperform⟩ := performOp_of_busy (s := withHostq rest s) (o := o) hb fun ho => hpop (congrArg _ ho)
      exact ⟨rest, r, by simp only [hostTurn, hq, hperform], hrest⟩
    | reset => exact absurd rfl hreset
    | wait =>
      have hturn : hostTurn s = .next (withRet (.word (readReg s statusNum)) s) := by
        simp only [hostTurn, hq, if_pos hb]
      exact ⟨s.hostq, .word (readReg s statusNum), hturn, hlines⟩
    | drain => exact absurd rfl hdrain

/-- Whoever takes the turn, a step of an undrained scan changes nothing of the block. -/
theorem Undrained.step {s : State} (h : Undrained s) : ∃ t, step s = .next t ∧ SameBlock s t ∧ Undrained t := by
  unfold Machine.step takeTurn
  cases nextAgent s with
  | sequencer =>
    exact ⟨dropTurn s, sequencerTurn_of_waitsForPop (s := dropTurn s) h.waits, sameBlock_dropTurn s,
      h.busy, h.waits, h.lines⟩
  | host =>
    obtain ⟨q, r, hturn, hq⟩ := hostTurn_of_leavesStream (s := dropTurn s) h.busy h.lines
    exact ⟨_, hturn, ⟨q, s.turns.tail, r, rfl⟩, h.busy, h.waits, hq⟩

/-- So does every number of steps (70_reset_and_hazards.md R240). -/
theorem Undrained.runFor {s : State} (h : Undrained s) (n : Nat) : ∃ t, runFor n s = .next t ∧ SameBlock s t := by
  induction n generalizing s with
  | zero => exact ⟨s, rfl, .refl s⟩
  | succ n ih =>
    obtain ⟨t, hstep, hst, ht⟩ := h.step
    obtain ⟨u, hrun, htu⟩ := ih ht
    exact ⟨u, (runFor_succ hstep).trans hrun, hst.trans htu⟩

/-- Settles O38: a scan at a data cell or at its end waits, and every step keeps it waiting. -/
theorem undrainedScanWaits : Obligations.UndrainedScanWaits := by
  intro s hl hb hq hlines n
  have hwaits : waitsForPop s := by
    rcases hq with hq | ⟨k, r, c, hq, hcell, hdata⟩
    · exact .inr hq
    · obtain ⟨hk, hvisit⟩ := visitAt_of_getElem? hl hcell
      exact .inl ⟨k, hq, hk, (congrArg (isSkipped _) hvisit).trans hdata⟩
  obtain ⟨t, hrun, q, ts, r, rfl⟩ := Undrained.runFor ⟨hb, hwaits, hlines⟩ n
  exact ⟨q, ts, r, hrun⟩

end Sys2Proof.Machine
end

section
/-! SCAN from its acceptance to its end, drained by the host. -/

namespace Sys2Proof.Machine

/-! ## One step of a scan whose host drains it (43_data_scanner.md R144 to R147, log 7) -/

section Steps

variable {s : State} {k : Nat} {rest : List HostLine}

/-- At a function pattern the default order gives the sequencer the turn (log 5). -/
theorem step_of_skipped (hq : s.seq = .scan k) (hk : k < visitLength (side s))
    (hskip : isSkipped (side s) (visitAt (side s) k) = true) (ht : s.turns = []) :
    step s = .next (withSeq (afterVisit (side s) k) s) := by
  have hn : nextAgent s = .sequencer := by simp [nextAgent, ht, sequencerCanMove, hq, hskip]
  rw [← sequencerTurn_of_skipped hq hk hskip]
  simp only [step, takeTurn, hn, dropTurn_of_nil ht]

/-- While the block waits for a `POP` the default order gives the host the turn (log 5). -/
theorem nextAgent_of_waitsForPop (h : waitsForPop s) (ht : s.turns = []) : nextAgent s = .host := by
  rcases h with ⟨k, hq, hk, hdata⟩ | hq
  · simp [nextAgent, ht, sequencerCanMove, hq, hk, hdata]
  · simp [nextAgent, ht, sequencerCanMove, hq]

/-- A DRAIN takes the symbol offered, and ends when it is the sentinel (30_encoding.md R66, log 7). -/
theorem step_of_drain {x : Symbol} (hwaits : waitsForPop s) (ht : s.turns = []) (hline : s.hostq = .drain :: rest)
    (hoffer : offered s = .ok (some x)) :
    step s = if (transfer x s).ret = .symbol (symbolCode .sentinel) then .next (withHostq rest (transfer x s))
      else .next (transfer x s) := by
  simp only [step, takeTurn, nextAgent_of_waitsForPop hwaits ht, dropTurn_of_nil ht, hostTurn, hline,
    popStep_of_offered hoffer]

/-- At a data cell the DRAIN takes its bit and stays (43_data_scanner.md R145). -/
theorem step_of_drainedCell (hl : LegalSide (side s)) (hq : s.seq = .scan k) (hk : k < visitLength (side s))
    (hdata : isSkipped (side s) (visitAt (side s) k) = false) (ht : s.turns = []) (hline : s.hostq = .drain :: rest) :
    step s = .next (withSeq (afterVisit (side s) k)
      (countBit (emitSymbol (.data (scanBit s.grid s.mask (visitAt (side s) k))) s))) := by
  rw [step_of_drain (.inl ⟨k, hq, hk, hdata⟩) ht hline (offered_of_data hl hq hk hdata), transfer_of_scan _ hq]
  exact if_neg (by simp)

/-- At the end the DRAIN takes the sentinel and is done (43_data_scanner.md R147). -/
theorem step_of_drainedEnd (hq : s.seq = .atEnd) (ht : s.turns = []) (hline : s.hostq = .drain :: rest) :
    step s = .next (withHostq rest (endCommand (emitSymbol .sentinel s))) := by
  rw [step_of_drain (.inr hq) ht hline (offered_of_atEnd hq), transfer_of_atEnd _ hq]
  exact if_pos rfl

end Steps

/-! ## The visit steps in a row (43_data_scanner.md R149) -/

/-- A scan whose first `k` cells are visited: BS and COUNT hold their bits, and the next cell, or the end, is due. -/
def visited (k : Nat) (r : Response) (s : State) : State :=
  { s with
    bs := (prefixBits s.grid (side s) s.mask k).map .data
    count := BitVec.ofNat 16 (prefixBits s.grid (side s) s.mask k).length
    seq := if k < visitLength (side s) then .scan k else .atEnd
    ret := r }

/-- Visiting a function pattern changes only what is due next. -/
theorem visited_succ_of_skipped {s : State} {k : Nat} (r : Response) (hl : LegalSide (side s))
    (hk : k < visitLength (side s)) (hskip : isSkipped (side s) (visitAt (side s) k) = true) :
    visited (k + 1) r s = withSeq (afterVisit (side s) k) (visited k r s) := by
  simp only [visited, prefixBits_succ _ _ hl hk, if_pos hskip, List.append_nil]
  rfl

/-- Visiting a data cell emits and counts its bit. -/
theorem visited_succ_of_data {s : State} {k : Nat} (r : Response) (hl : LegalSide (side s))
    (hk : k < visitLength (side s)) (hdata : isSkipped (side s) (visitAt (side s) k) = false) {bit : Bool}
    (hbit : scanBit s.grid s.mask (visitAt (side s) k) = bit) :
    visited (k + 1) (.symbol (symbolCode (.data bit))) s =
      withSeq (afterVisit (side s) k) (countBit (emitSymbol (.data bit) (visited k r s))) := by
  simp only [visited, prefixBits_succ _ _ hl hk, hdata, hbit, Bool.false_eq_true, if_false, List.map_append,
    List.length_append, BitVec.ofNat_add]
  rfl

/-- One visit step is one step of the machine, whether the cell is skipped or drained. -/
theorem step_of_visited {s : State} {k : Nat} {rest : List HostLine} (r : Response) (hl : LegalSide (side s))
    (hk : k < visitLength (side s)) (ht : s.turns = []) (hline : s.hostq = .drain :: rest) :
    ∃ r', step (visited k r s) = .next (visited (k + 1) r' s) := by
  have hq : (visited k r s).seq = .scan k := if_pos hk
  cases hs : isSkipped (side s) (visitAt (side s) k) with
  | true =>
    have hstep := step_of_skipped (s := visited k r s) hq hk hs ht
    exact ⟨r, hstep.trans (congrArg _ (visited_succ_of_skipped r hl hk hs).symm)⟩
  | false =>
    have hstep := step_of_drainedCell (s := visited k r s) hl hq hk hs ht hline
    exact ⟨_, hstep.trans (congrArg _ (visited_succ_of_data r hl hk hs rfl).symm)⟩

/-- `k` steps visit `k` cells. -/
theorem runFor_visited {s : State} {rest : List HostLine} (hl : LegalSide (side s)) (ht : s.turns = [])
    (hline : s.hostq = .drain :: rest) (r : Response) {k : Nat} (hk : k ≤ visitLength (side s)) :
    ∃ r', runFor k (visited 0 r s) = .next (visited k r' s) := by
  induction k with
  | zero => exact ⟨r, rfl⟩
  | succ k ih =>
    obtain ⟨r', hrun⟩ := ih (by omega)
    obtain ⟨r'', hstep⟩ := step_of_visited r' hl hk ht hline
    exact ⟨r'', runFor_add hrun (runFor_one hstep)⟩

/-- A scan that begins has visited no cell (43_data_scanner.md R143). -/
theorem visited_zero {s : State} (hl : LegalSide (side s)) : visited 0 s.ret (beginScan s) = beginScan s := by
  rw [visited, if_pos (visitLength_pos (n := side (beginScan s)) hl)]
  rfl

/-- When every cell is visited, BS and COUNT hold the whole of `scanBits(G, N, m)` (43_data_scanner.md R149). -/
theorem visited_all {s : State} (r : Response) (hl : LegalSide (side s)) :
    visited (visitLength (side s)) r s =
      { s with bs := (scanBits s.grid (side s) s.mask).map .data,
               count := BitVec.ofNat 16 (order (side s)).length, seq := .atEnd, ret := r } := by
  rw [visited, prefixBits_of_visitLength_le _ _ hl le_rfl, if_neg (lt_irrefl _), scanBits, List.length_map]

/-- From its beginning the visit steps and the end step of a scan deliver `scan(G, N, m)` (43_data_scanner.md R147 to
R149). -/
theorem runFor_drainedScan {s : State} {rest : List HostLine} (hl : LegalSide (side s)) (ht : s.turns = [])
    (hline : s.hostq = .drain :: rest) :
    runFor (visitLength (side s) + 1) (beginScan s) = .next
      { s with bs := scanSymbols s.grid (side s) s.mask, count := BitVec.ofNat 16 (order (side s)).length,
               busy := false, done := true, seq := .idle, ret := .symbol 0b10#2, hostq := rest } := by
  obtain ⟨r, hvisits⟩ := runFor_visited (s := beginScan s) hl ht hline s.ret le_rfl
  rw [visited_zero hl, visited_all (s := beginScan s) r hl] at hvisits
  exact runFor_add hvisits (runFor_one (step_of_drainedEnd rfl ht hline))

/-- The step of a host whose next line is SCAN, at an idle block with no turn listed (43_data_scanner.md R143). -/
theorem step_of_scanLine {s : State} {rest : List HostLine} (hq : s.seq = .idle) (hb : s.busy = false)
    (hl : LegalSide (side s)) (ht : s.turns = []) (hline : s.hostq = commandLine .scan :: rest) :
    step s = .next (beginScan (latchCommand .scan (clearReport (withRet .nothing (withHostq rest s))))) := by
  have haccept := stepRunsDecodedCommand s _ rest .scan (nextAgent_of_idle hq ht) hline hb (by decide)
  rw [← lineDone_eq, lineDone, dropTurn_of_nil ht] at haccept
  exact haccept.trans (scanAccepted _ hl)

/-- Settles O40: the acceptance, and from there the visit steps and the end step. -/
theorem scanDeliversStream : Obligations.ScanDeliversStream := by
  intro s rest hq hb hl ht hline
  let accepted := latchCommand .scan (clearReport (withRet .nothing (withHostq (.drain :: rest) s)))
  have hscan := runFor_drainedScan (s := accepted) hl ht rfl
  have hsteps : s.size.toNat * (s.size.toNat - 3) + 2 = visitLength (side accepted) + 1 + 1 := rfl
  rw [hsteps, runFor_succ (step_of_scanLine hq hb hl ht hline), hscan, hq, hb]
  rfl

end Sys2Proof.Machine
end

section
/-! The segment interpreter on the stream of a scan. -/

namespace Sys2Proof.Machine

/-- The data bits of data symbols are their bits. -/
theorem dataBits_map_data (bits : List Bool) : dataBits (bits.map Symbol.data) = bits := by
  induction bits with
  | nil => rfl
  | cons b bits ih => simp [dataBits, ih]

/-- The data bits of a scan are the bits of the cells of `order(N)`; the sentinel is none (43_data_scanner.md R148). -/
theorem dataBits_scanSymbols (g : Memory) (n : Nat) (m : MaskId) : dataBits (scanSymbols g n m) = scanBits g n m := by
  rw [scanSymbols, dataBits_append, dataBits_map_data]
  exact List.append_nil _

/-- The interpreter fails exactly on a stream too short for its length field; a stream too short for the mode or for
the length field is among those (45_environment_collaborators.md R185). -/
theorem interpret_insufficient_iff (stream : List Symbol) :
    interpret stream = .error .insufficientData ↔
      (dataBits stream).length < 12 + 8 * bitsAt (dataBits stream) 4 8 := by
  simp only [interpret]
  split
  case isTrue hmode => exact iff_of_true rfl (by omega)
  case isFalse =>
    split
    case isTrue hlength => exact iff_of_true rfl (by omega)
    case isFalse =>
      split
      case isTrue hpayload => exact iff_of_true rfl hpayload
      case isFalse hpayload => exact iff_of_false (by simp) hpayload

/-- Settles O60: a scan has `N*N - 4*N - 176` data bits. -/
theorem interpretFailsOnShortStream : Obligations.InterpretFailsOnShortStream := by
  intro g n m h
  have hlen : (scanBits g n m).length = n * n - 4 * n - 176 := by rw [scanBits, List.length_map, order_length h]
  rw [interpret_insufficient_iff, dataBits_scanSymbols, hlen]

end Sys2Proof.Machine
end

section
/-! NOP and RUN at acceptance, RUN from its acceptance to its end, and RUN against FMT, WAIT, SCAN. -/

namespace Sys2Proof.Machine

/-! ## The acceptances (44_control_commands.md R160 to R162) -/

/-- Settles O8: a busy block drops the write, and an idle block runs the NOP it decodes to. -/
theorem nopChangesNothing : Obligations.NopChangesNothing := by
  refine ⟨fun s => rfl, fun s v hv => ?_⟩
  cases hb : s.busy with
  | true => exact hostWrite_of_busy 0#4 v hb
  | false =>
    have hword : v.setWidth 8 = encode .nop := (BitVec.setWidth_eq_extractLsb' (by decide)).trans hv
    rw [hostWrite_cmd_of_idle v hb, hword, issueCommand_of_decode s (decode_encode .nop)]
    rfl

/-- Settles O11: with a legal SIZE the acceptance goes on to RUN's own rule. -/
theorem runAccepted : Obligations.RunAccepted := by
  intro s hl
  have hlegal : legalSize (side s) = true := (legalSize_iff_legalSide _).2 hl
  rw [exec, execRun, acceptSized_legal hlegal]
  rfl

/-! ## RUN from its acceptance to its end (44_control_commands.md R162) -/

section Steps

variable {s : State} {rest : List HostLine}

/-- The step of a host whose next line is RUN, at an idle block with no turn listed (44_control_commands.md R162). -/
theorem step_of_runLine (hq : s.seq = .idle) (hb : s.busy = false) (hl : LegalSide (side s)) (ht : s.turns = [])
    (hline : s.hostq = commandLine .run :: rest) :
    step s = .next { s with hostq := rest, ret := .nothing, done := false, err := 0#4, busy := true, fmtv := false,
                            cmdl := .run, seq := .fmt 0 } := by
  have haccept := stepRunsDecodedCommand s _ rest .run (nextAgent_of_idle hq ht) hline hb (by decide)
  rw [← lineDone_eq, lineDone, dropTurn_of_nil ht] at haccept
  exact haccept.trans (runAccepted _ hl)

/-- The step of a host whose next line is WAIT, at an idle block with no turn listed: STATUS reads BUSY 0, and the host
goes on (30_encoding.md R66, log 7). -/
theorem step_of_waitLine (hq : s.seq = .idle) (hb : s.busy = false) (ht : s.turns = [])
    (hline : s.hostq = .wait :: rest) :
    step s = .next (withHostq rest (withRet (.word (readReg s statusNum)) s)) := by
  simp only [step, takeTurn, nextAgent_of_idle hq ht, dropTurn_of_nil ht, hostTurn, hline, hb, Bool.false_eq_true,
    if_false]

end Steps

/-- The block with `formatInfo(G, N)` in RAWSH and in the registers that a completed read publishes (40_format_demux.md
R80, R88). -/
def withFormatInfo (s : State) : State :=
  let info := formatInfo s.grid (side s)
  { s with
    rawsh := packLow 15 info.raw
    fmtraw := packLow 15 info.raw
    fmtinfo := packHigh 15 info.f
    mask := info.mid
    fmtv := true }

/-- From FMT(0) of a RUN fifteen steps publish `formatInfo(G, N)` and begin the scan (40_format_demux.md R87,
44_control_commands.md R162). -/
theorem runFor_formatRead_of_run {s : State} (hl : LegalSide (side s)) (hq : s.seq = .fmt 0) (ht : s.turns = [])
    (hc : s.cmdl = .run) : runFor 15 s = .next (beginScan (withFormatInfo s)) := by
  obtain ⟨x, hrun, hf⟩ := runFor_collect hl hq ht 14 (by decide)
  let t := collecting ⟨14, by decide⟩ x s
  have hlast : step t = .next (beginScan (publishRead (collectModule 14 t))) := by
    rw [step_of_fmt (s := t) rfl ht, sequencerTurn_of_lastCollect (s := t) hl rfl,
      completeFormat_of_run (s := collectModule 14 t) hc]
  rw [FormatInv.collect_last (s := t) hf rfl, publishRead_of_rawBits] at hlast
  exact runFor_add hrun (runFor_one hlast)

/-- An idle block after a format read and a scan with the mask id just read, `c` being the command last accepted and
`rest` the lines left to a host that drained the scan (40_format_demux.md R88, 43_data_scanner.md R149). -/
def formatThenScan (c : LatchedCommand) (rest : List HostLine) (s : State) : State :=
  { withFormatInfo s with
    busy := false
    done := true
    err := 0#4
    count := BitVec.ofNat 16 (order (side s)).length
    seq := .idle
    cmdl := c
    bs := scanSymbols s.grid (side s) (formatInfo s.grid (side s)).mid
    hostq := rest
    ret := .symbol 0b10#2 }

/-- From FMT(0) of a drained RUN the collection steps, the visit steps and the end step run it to its end. -/
theorem runFor_drainedRun {s : State} {rest : List HostLine} (hl : LegalSide (side s)) (hq : s.seq = .fmt 0)
    (ht : s.turns = []) (hc : s.cmdl = .run) (herr : s.err = 0#4) (hline : s.hostq = .drain :: rest) :
    runFor (15 + (visitLength (side s) + 1)) s = .next (formatThenScan .run rest s) := by
  have hread := runFor_formatRead_of_run hl hq ht hc
  have hscan := runFor_drainedScan (s := withFormatInfo s) hl ht hline
  rw [formatThenScan, ← hc, ← herr]
  exact runFor_add hread hscan

/-- RUN and DRAIN, from the acceptance to the end (44_control_commands.md R162). -/
theorem runFor_runLine {s : State} {rest : List HostLine} (hq : s.seq = .idle) (hb : s.busy = false)
    (hl : LegalSide (side s)) (ht : s.turns = []) (hline : s.hostq = commandLine .run :: .drain :: rest) :
    runFor (15 + (visitLength (side s) + 1) + 1) s = .next (formatThenScan .run rest s) := by
  have hstep := step_of_runLine hq hb hl ht hline
  exact (runFor_succ hstep).trans (runFor_drainedRun hl rfl ht rfl rfl rfl)

/-! ## RUN against FMT, WAIT, SCAN (44_control_commands.md R163) -/

/-- FMT, WAIT, SCAN and DRAIN, from the acceptance of FMT to the end of the scan (44_control_commands.md R163). -/
theorem runFor_fmtWaitScanLines {s : State} {rest : List HostLine} (hq : s.seq = .idle) (hb : s.busy = false)
    (hl : LegalSide (side s)) (ht : s.turns = [])
    (hline : s.hostq = commandLine .fmt :: .wait :: commandLine .scan :: .drain :: rest) :
    runFor (16 + (1 + (side s * (side s - 3) + 2))) s = .next (formatThenScan .scan rest s) := by
  let fmtDone : State := { withFormatInfo s with
    hostq := .wait :: commandLine .scan :: .drain :: rest, ret := .nothing, done := true, err := 0#4, cmdl := .fmt }
  let waited := withHostq (commandLine .scan :: .drain :: rest) (withRet (.word (readReg fmtDone statusNum)) fmtDone)
  have hfmt : runFor 16 s = .next fmtDone := fmtDeliversFormatInfo s _ hq hb hl ht hline
  have hwait : step fmtDone = .next waited := step_of_waitLine hq hb ht rfl
  have hscan := scanDeliversStream waited rest hq hb hl ht rfl
  rw [formatThenScan, ← hb, ← hq]
  exact runFor_add hfmt (runFor_add (runFor_one hwait) hscan)

/-- Settles O41: the two end states differ in CMDL alone, which is none of the registers compared. -/
theorem runIsFmtThenScan : Obligations.RunIsFmtThenScan := by
  intro s hq hb hl ht
  have hrun := runFor_runLine (s := { s with hostq := [commandLine .run, .drain] }) hq hb hl ht rfl
  have hparts := runFor_fmtWaitScanLines
    (s := { s with hostq := [commandLine .fmt, .wait, commandLine .scan, .drain] }) hq hb hl ht rfl
  exact ⟨_, _, _, _, hrun, hparts, rfl, rfl, rfl, rfl, rfl, rfl, rfl, rfl, rfl, rfl, rfl⟩

end Sys2Proof.Machine
end

section
/-! The segment interpreter on a segment: what each of its reads returns. -/

namespace Sys2Proof.Machine

/-! ## Fields (45_environment_collaborators.md R181) -/

/-- A field has one bit for each of its width. -/
@[simp] theorem bitsHigh_length {w : Nat} (x : BitVec w) : (bitsHigh x).length = w := by simp [bitsHigh]

/-- The value of a field written big-endian is the field: read from its end, the sequence is the field bit by bit. -/
theorem bitsValue_bitsHigh {w : Nat} (x : BitVec w) : bitsValue (bitsHigh x) = x.toNat := by
  rw [bitsValue, bitsHigh, List.foldl_reverse]
  apply Nat.eq_of_testBit_eq
  intro i
  rw [testBit_foldr, BitVec.testBit_toNat]
  by_cases hi : i < w
  · exact bitsLow_getD x hi
  · rw [BitVec.getLsbD_of_ge x i (by omega), List.getD_eq_default _ _ (by simpa using hi)]

/-- A field is read where it stands, whatever stands around it. -/
theorem bitsAt_append_bitsHigh {w : Nat} (before : List Bool) (x : BitVec w) (after : List Bool) {start : Nat}
    (h : before.length = start) : bitsAt (before ++ (bitsHigh x ++ after)) start w = x.toNat := by
  rw [bitsAt, List.drop_left' h, List.take_left' (bitsHigh_length x), bitsValue_bitsHigh]

/-- The bytes of a payload in a row have eight bits each. -/
theorem flatMap_bitsHigh_length (payload : List (BitVec 8)) :
    (payload.flatMap bitsHigh).length = 8 * payload.length := by
  simp [List.length_flatMap, Nat.mul_comm]

/-! ## The segment (45_environment_collaborators.md R181, R183, R184) -/

/-- A segment with what follows it: the mode, the number of bytes, the bytes, the rest. -/
def segmentBits (mode : BitVec 4) (payload : List (BitVec 8)) (tail : List Bool) : List Bool :=
  bitsHigh mode ++ bitsHigh (BitVec.ofNat 8 payload.length) ++ payload.flatMap bitsHigh ++ tail

section Segment

variable (mode : BitVec 4) (payload : List (BitVec 8)) (tail : List Bool)

theorem segmentBits_length : (segmentBits mode payload tail).length = 12 + 8 * payload.length + tail.length := by
  simp only [segmentBits, List.length_append, bitsHigh_length, flatMap_bitsHigh_length]

/-- The mode is read from bit 0 (45_environment_collaborators.md R181). -/
theorem bitsAt_segmentBits_mode : bitsAt (segmentBits mode payload tail) 0 4 = mode.toNat := by
  rw [segmentBits, List.append_assoc, List.append_assoc]
  exact bitsAt_append_bitsHigh [] mode _ rfl

/-- The length is read from bit 4; eight bits hold it (45_environment_collaborators.md R183). -/
theorem bitsAt_segmentBits_length (h : payload.length < 256) :
    bitsAt (segmentBits mode payload tail) 4 8 = payload.length := by
  rw [segmentBits, List.append_assoc, List.append_assoc, bitsAt_append_bitsHigh _ _ _ (bitsHigh_length mode)]
  exact Nat.mod_eq_of_lt h

/-- Byte `j` is read from bit `12 + 8 * j`, behind the header and `j` bytes (45_environment_collaborators.md R184). -/
theorem bitsAt_segmentBits_byte {j : Nat} (hj : j < payload.length) :
    bitsAt (segmentBits mode payload tail) (12 + 8 * j) 8 = payload[j].toNat := by
  have hsplit : payload = payload.take j ++ payload[j] :: payload.drop (j + 1) := by
    rw [← List.drop_eq_getElem_cons hj, List.take_append_drop]
  have hbits : segmentBits mode payload tail =
      (bitsHigh mode ++ bitsHigh (BitVec.ofNat 8 payload.length) ++ (payload.take j).flatMap bitsHigh) ++
        (bitsHigh payload[j] ++ ((payload.drop (j + 1)).flatMap bitsHigh ++ tail)) := by
    have hbytes := congrArg (List.flatMap bitsHigh) hsplit
    rw [List.flatMap_append, List.flatMap_cons] at hbytes
    rw [segmentBits, hbytes]
    simp only [List.append_assoc]
  rw [hbits]
  apply bitsAt_append_bitsHigh
  simp only [List.length_append, bitsHigh_length, flatMap_bitsHigh_length, List.length_take, Nat.min_eq_left hj.le]

/-- The bytes read are the payload (45_environment_collaborators.md R184). -/
theorem bytes_segmentBits :
    ((List.range payload.length).map fun j => BitVec.ofNat 8 (bitsAt (segmentBits mode payload tail) (12 + 8 * j) 8)) =
      payload := by
  apply List.ext_getElem
  · simp
  · intro j _ hj
    rw [List.getElem_map, List.getElem_range, bitsAt_segmentBits_byte mode payload tail hj, BitVec.ofNat_toNat,
      BitVec.setWidth_eq]

end Segment

/-- A stream long enough for its length field is read to the end of the bytes (45_environment_collaborators.md R181 to
R184). -/
theorem interpret_of_length_le {stream : List Symbol} {bits : List Bool} (hbits : dataBits stream = bits)
    (h : 12 + 8 * bitsAt bits 4 8 ≤ bits.length) :
    interpret stream = .ok
      { mode := dataModeOf (bitsAt bits 0 4), length := bitsAt bits 4 8,
        payload := (List.range (bitsAt bits 4 8)).map fun j => BitVec.ofNat 8 (bitsAt bits (12 + 8 * j) 8) } := by
  subst hbits
  rw [interpret, if_neg (by omega), if_neg (by omega), if_neg (by omega)]

/-- Settles O59: the sentinel is no data bit, the stream is long enough, and each read returns what was written. -/
theorem interpretReadsSegment : Obligations.InterpretReadsSegment := by
  intro mode payload tail hlt
  have hbits : dataBits ((segmentBits mode payload tail).map Symbol.data ++ [.sentinel]) =
      segmentBits mode payload tail := by
    rw [dataBits_append, dataBits_map_data]
    exact List.append_nil _
  have hlen := bitsAt_segmentBits_length mode payload tail hlt
  have hread := interpret_of_length_le hbits (by rw [hlen, segmentBits_length]; omega)
  rw [hlen, bitsAt_segmentBits_mode, bytes_segmentBits] at hread
  exact hread

end Sys2Proof.Machine
end

section
/-! The checks at acceptance, how long their report lasts, and a register read against a turn of the sequencer. -/

namespace Sys2Proof.Machine

/-! ## A register read and the sequencer's turn (60_exceptions.md R218) -/

/-- The completion of a format read neither looks at the last response nor writes it (40_format_demux.md R88). -/
theorem completeFormat_withRet {s u : State} (r : Response) (h : completeFormat s = .next u) :
    completeFormat (withRet r s) = .next (withRet r u) := by
  rcases completeFormat_next h with ⟨hc, rfl⟩ | ⟨hc, rfl⟩
  · exact completeFormat_of_fmt (s := withRet r s) hc
  · exact completeFormat_of_run (s := withRet r s) hc

/-- Nor does a collection step (40_format_demux.md R87). -/
theorem formatStep_withRet {i : Fin 15} {s u : State} (r : Response) (h : formatStep i s = .next u) :
    formatStep i (withRet r s) = .next (withRet r u) := by
  have hread : memRead (withRet r s) = memRead s := rfl
  simp only [formatStep, hread, withRet_side] at h ⊢
  cases hm : memRead s (formatRow (side s) i.val) formatCol with
  | error f => simp only [hm, reduceCtorEq] at h
  | ok v =>
    simp only [hm] at h ⊢
    by_cases hi : i.val + 1 < 15
    · rw [dif_pos hi] at h ⊢
      cases h
      rfl
    · rw [dif_neg hi] at h ⊢
      exact completeFormat_withRet r h

/-- Nor does a visit step (43_data_scanner.md R144). -/
theorem scanStep_withRet {k : Nat} {s u : State} (r : Response) (h : scanStep k s = .next u) :
    scanStep k (withRet r s) = .next (withRet r u) := by
  obtain ⟨hk, ⟨hs, rfl⟩ | ⟨hs, rfl⟩⟩ := scanStep_next h
  · rw [scanStep, withRet_side, if_pos hk, if_pos hs]
    rfl
  · rw [scanStep, withRet_side, if_pos hk, if_neg (Bool.eq_false_iff.1 hs)]

/-- So the sequencer's turn is the same whatever the host's last operation returned (60_exceptions.md R218). -/
theorem sequencerTurn_withRet {s u : State} (r : Response) (h : sequencerTurn s = .next u) :
    sequencerTurn (withRet r s) = .next (withRet r u) := by
  unfold sequencerTurn at h ⊢
  rw [withRet_seq]
  cases hq : s.seq with
  | idle | atEnd =>
    simp only [hq, Host.Outcome.next.injEq] at h ⊢
    rw [h]
  | fmt i =>
    simp only [hq] at h ⊢
    exact formatStep_withRet r h
  | scan k =>
    simp only [hq] at h ⊢
    exact scanStep_withRet r h

/-- Settles O47: a read writes the response alone, which the sequencer's turn carries along. -/
theorem readAndSequencerCommute : Obligations.ReadAndSequencerCommute := by
  intro s u n h
  exact ⟨_, _, _, rfl, sequencerTurn_withRet (.word (readReg s n)) h, rfl, rfl⟩

/-! ## ERR and DONE of an idle block (60_exceptions.md R208) -/

/-- ERR and DONE are the same in both states. -/
def reportKept (s t : State) : Prop := t.err = s.err ∧ t.done = s.done

/-- So a step that keeps the report makes neither of the changes the statement is about. -/
theorem reportKept.not_changed {s t : State} (h : reportKept s t) : ¬ (t.err ≠ s.err ∨ t.done ≠ s.done) := by
  obtain ⟨herr, hdone⟩ := h
  rintro (hne | hne)
  · exact hne herr
  · exact hne hdone

/-- No register write reaches STATUS (10_state.md R14). -/
theorem writeReg_reportKept (n : RegNum) (v : Word) (s : State) : reportKept s (writeReg n v s) := by
  rw [writeReg_eq]
  exact ⟨rfl, rfl⟩

/-- An idle block offers no symbol (43_data_scanner.md R146). -/
theorem offered_of_idle {s : State} (hq : s.seq = .idle) : offered s = .ok none := by
  simp only [offered, hq]

/-- So a `POP` of an idle block writes the response alone. -/
theorem popStep_of_idle {s : State} (hq : s.seq = .idle) : popStep s = .next (withRet .nothing s) :=
  popStep_of_noSymbol (offered_of_idle hq)

/-- The sequencer's turn leaves an idle block as it is (60_exceptions.md R220). -/
theorem sequencerTurn_of_idle {s : State} (hq : s.seq = .idle) : sequencerTurn s = .next s := by
  simp only [sequencerTurn, hq]

/-- An idle block that is offered NOP's word changes nothing (44_control_commands.md R160). -/
theorem issueCommand_of_nopWord {s : State} {v : Word} (hb : s.busy = false) (hv : v.extractLsb' 0 8 = 0#8) :
    issueCommand (v.setWidth 8) s = .next s :=
  (hostWrite_cmd_of_idle v hb).symm.trans (nopChangesNothing.2 s v hv)

/-- A host turn of an idle block keeps the report, resets the block, or writes a word other than NOP's to CMD. -/
theorem hostTurn_reportKept {s t : State} (hq : s.seq = .idle) (h : hostTurn s = .next t) :
    reportKept s t ∨ (∃ rest, s.hostq = .reset :: rest) ∨
      ∃ v rest, s.hostq = .op (.wr 0#4 v) :: rest ∧ v.extractLsb' 0 8 ≠ 0#8 := by
  rcases hostTurn_cases h with ⟨q, r, rfl⟩ | ⟨rest, hline, -⟩ | ⟨q, v, hpop, rfl⟩ | ⟨rest, -, hpop⟩ |
    ⟨-, r, c, b, rest, -, -, rfl⟩ | ⟨-, n, v, rest, -, -, rfl⟩ | ⟨hb, v, rest, hline, hissue⟩
  · exact .inl ⟨rfl, rfl⟩
  · exact .inr (.inl ⟨rest, hline⟩)
  · cases (popStep_of_idle hq).symm.trans hpop
    exact .inl ⟨rfl, rfl⟩
  · cases (popStep_of_idle (s := withHostq rest s) hq).symm.trans hpop
    exact .inl ⟨rfl, rfl⟩
  · exact .inl ⟨rfl, rfl⟩
  · exact .inl (writeReg_reportKept n v (withRet .nothing (withHostq rest s)))
  · by_cases hv : v.extractLsb' 0 8 = 0#8
    · cases (issueCommand_of_nopWord (s := withRet .nothing (withHostq rest s)) hb hv).symm.trans hissue
      exact .inl ⟨rfl, rfl⟩
    · exact .inr (.inr ⟨v, rest, hline, hv⟩)

/-- Settles O57: the block is idle, so the sequencer's turn keeps the report, and the host's does but for the two
lines. -/
theorem errorReportPersists : Obligations.ErrorReportPersists := by
  intro s t hi hb h hchange
  have hq : s.seq = .idle := hi.seq_of_idle hb
  rcases step_cases h with ⟨-, hs⟩ | ⟨hn, hh⟩
  · cases (sequencerTurn_of_idle (s := dropTurn s) hq).symm.trans hs
    have hkept : reportKept s (dropTurn s) := ⟨rfl, rfl⟩
    exact absurd hchange hkept.not_changed
  · rcases hostTurn_reportKept (s := dropTurn s) hq hh with hkept | hline
    · exact absurd hchange hkept.not_changed
    · exact ⟨hn, hline⟩

/-! ## The checks at acceptance (60_exceptions.md R202 to R206) -/

/-- Every command but NOP checks SIZE before its own rule (60_exceptions.md R203). -/
theorem exec_eq_acceptSized {i : Instr} (hi : i ≠ .nop) : ∃ body, ∀ s, exec i s = acceptSized body s := by
  cases i with
  | nop => exact absurd rfl hi
  | fmt => exact ⟨fun t => .next (beginFormat (latchCommand .fmt t)), fun _ => rfl⟩
  | scan => exact ⟨fun t => .next (beginScan (latchCommand .scan t)), fun _ => rfl⟩
  | run => exact ⟨fun t => .next (beginFormat (latchCommand .run t)), fun _ => rfl⟩
  | probe => exact ⟨probeCell, fun _ => rfl⟩

/-- So with an illegal SIZE it reports that, and its own rule is not reached (60_exceptions.md R205, R206). -/
theorem exec_of_illegalSize {i : Instr} {s : State} (hi : i ≠ .nop) (hl : ¬ LegalSide (side s)) :
    exec i s = .next { s with err := 1#4, done := false } := by
  obtain ⟨body, hbody⟩ := exec_eq_acceptSized hi
  exact (hbody s).trans (acceptSized_illegal (legalSize_eq_false hl))

/-- PROBE checks its coordinates once SIZE is legal (60_exceptions.md R204). -/
theorem exec_probe_of_outOfBounds {s : State} (hl : LegalSide (side s))
    (hout : side s ≤ probeRow s ∨ side s ≤ probeCol s) :
    exec .probe s = .next { s with err := 2#4, done := false } := by
  rw [exec, execProbe, acceptSized_legal ((legalSize_iff_legalSide _).2 hl)]
  exact if_pos hout

/-- Settles O13: the check of SIZE fails before the command's own rule. -/
theorem illegalSizeReported : Obligations.IllegalSizeReported := fun _ _ => exec_of_illegalSize

/-- Settles O14: a word that does not decode runs nothing; one that does runs its command, which checks SIZE and then
the coordinates. -/
theorem checksComeInOrder : Obligations.ChecksComeInOrder := by
  refine ⟨fun w s e hw => issueCommand_of_illegal s hw, fun w s i hw hi hl => ?_, fun w s hw hl hout => ?_⟩
  · exact (issueCommand_of_decode s hw).trans (exec_of_illegalSize hi hl)
  · exact (issueCommand_of_decode s hw).trans (exec_probe_of_outOfBounds hl hout)

end Sys2Proof.Machine
end

section
/-! The step of a host that resets the block. -/

namespace Sys2Proof.Machine

/-- When the host moves next and its next line is a reset, the step resets the block, whatever it was doing
(70_reset_and_hazards.md R230, R231): the turn and the line are used up (logs 4, 5). -/
theorem step_of_reset {s : State} {rest : List HostLine} (hn : nextAgent s = .host) (hq : s.hostq = .reset :: rest) :
    step s = .next (resetBlock (withHostq rest (dropTurn s))) := by
  have hq' : (dropTurn s).hostq = .reset :: rest := hq
  simp only [step, takeTurn, hn, hostTurn, hq']

/-- A block that has been reset offers no symbol: the sequencer is idle (70_reset_and_hazards.md R230). -/
@[simp] theorem offered_resetBlock (s : State) : offered (resetBlock s) = .ok none :=
  offered_of_idle (resetBlock_seq s)

/-- Settles O49: the step is `resetBlock`, whose fields are the reset values but for the grid store and what the model
keeps for the host. -/
theorem resetEvent : Obligations.ResetEvent := by
  intro s rest hn hq
  refine ⟨resetBlock (withHostq rest (dropTurn s)), step_of_reset hn hq, ?_⟩
  simp

end Sys2Proof.Machine
end
